-- ==== Sys2Proof/Word.lean ====
section
/-! DEFINITION. The machine's word: every register, address, instruction and memory cell has 16 bits (R1, R5 `XLEN`,
R7, R60, R90; log entry 4). -/

namespace Sys2Proof

/-- A word, a 16-bit quantity (R7). -/
abbrev Word := BitVec 16

end Sys2Proof
end

