-- ==== Sys2Proof/Syntax.lean ====
section
/-! DEFINITION. The syntax of the instruction set: one constructor of `Instr` per row of spec/opcode_table.json, the
18 illegal, unused and unallocated patterns included. A constructor holds the fields its row names; don't-care bits
are not fields (R92, log entry 10). Fields stand in the order of the assembler syntax (R125). -/

namespace Sys2Proof

/-- The eight general registers (R21). `PC`, `SP` and `LR` have no register number (R22). -/
inductive Reg where
  | r0 | r1 | r2 | r3 | r4 | r5 | r6 | r7
  deriving DecidableEq, Repr, Inhabited

/-- The instruction words, one constructor per row of the opcode table (R128), in 22 numbered formats (R1,
`Instr.format`). -/
inductive Instr where
  /-- `LSL Rd, Rs, #Imm` (F1, R142). -/
  | lslImm (rd rs : Reg) (imm5 : BitVec 5)
  /-- `LSR Rd, Rs, #Imm` (F1, R143). -/
  | lsrImm (rd rs : Reg) (imm5 : BitVec 5)
  /-- `ASR Rd, Rs, #Imm` (F1, R144). -/
  | asrImm (rd rs : Reg) (imm5 : BitVec 5)
  /-- `ADD Rd, Ra, Rb` (F2, R146). -/
  | addReg (rd ra rb : Reg)
  /-- `SUB Rd, Ra, Rb` (F2, R148). -/
  | subReg (rd ra rb : Reg)
  /-- `ADD Rd, Ra, #Imm` (F2, R147). -/
  | addImm3 (rd ra : Reg) (imm3 : BitVec 3)
  /-- `SUB Rd, Ra, #Imm` (F2, R149). -/
  | subImm3 (rd ra : Reg) (imm3 : BitVec 3)
  /-- `MOV Rd, #Imm` (F3, R151). -/
  | movImm (rd : Reg) (imm8 : BitVec 8)
  /-- `CMP Rd, #Imm` (F3, R152). -/
  | cmpImm (rd : Reg) (imm8 : BitVec 8)
  /-- `ADD Rd, #Imm` (F3, R153). -/
  | addImm8 (rd : Reg) (imm8 : BitVec 8)
  /-- `SUB Rd, #Imm` (F3, R154). -/
  | subImm8 (rd : Reg) (imm8 : BitVec 8)
  /-- `AND Rd, Rs` (F4, R156). -/
  | and (rd rs : Reg)
  /-- `EOR Rd, Rs` (F4, R157). -/
  | eor (rd rs : Reg)
  /-- `LSL Rd, Rs` (F4, R158). -/
  | lslReg (rd rs : Reg)
  /-- `LSR Rd, Rs` (F4, R159). -/
  | lsrReg (rd rs : Reg)
  /-- `ASR Rd, Rs` (F4, R160). -/
  | asrReg (rd rs : Reg)
  /-- `ADC Rd, Rs` (F4, R161). -/
  | adc (rd rs : Reg)
  /-- `SBC Rd, Rs` (F4, R162). -/
  | sbc (rd rs : Reg)
  /-- `ROR Rd, Rs` (F4, R163). -/
  | ror (rd rs : Reg)
  /-- `TST Rd, Rs` (F4, R164). -/
  | tst (rd rs : Reg)
  /-- `NEG Rd, Rs` (F4, R165). -/
  | neg (rd rs : Reg)
  /-- `CMP Rd, Rs` (F4, R166). -/
  | cmpReg (rd rs : Reg)
  /-- `CMN Rd, Rs` (F4, R167). -/
  | cmn (rd rs : Reg)
  /-- `ORR Rd, Rs` (F4, R168). -/
  | orr (rd rs : Reg)
  /-- `MUL Rd, Rs` (F4, R169). -/
  | mul (rd rs : Reg)
  /-- `BIC Rd, Rs` (F4, R170). -/
  | bic (rd rs : Reg)
  /-- `MVN Rd, Rs` (F4, R171). -/
  | mvn (rd rs : Reg)
  /-- `BX Ra` (F5, R201). -/
  | bx (ra : Reg)
  /-- `BLX Ra` (F5, R202). -/
  | blx (ra : Reg)
  /-- `HWN Rd` (F6, R1, R205). -/
  | hwn (rd : Reg)
  /-- `HWQ Rd` (F6, R1, R206). -/
  | hwq (rd : Reg)
  /-- `HWI Rd` (F6, R1, R207). -/
  | hwi (rd : Reg)
  /-- `01000110111_____`, illegal (F6, R208). -/
  | illegalF6
  /-- `RFI` (F7, R211). -/
  | rfi
  /-- `RSI` (F7, R212). -/
  | rsi
  /-- `IFS` (F7, R213). -/
  | ifs
  /-- `IFC` (F7, R214). -/
  | ifc
  /-- `MRS Rd` (F7, R215). -/
  | mrs (rd : Reg)
  /-- `MSR Rd` (F7, R216). -/
  | msr (rd : Reg)
  /-- `0100011111______`, illegal (F7, R217). -/
  | illegalF7
  /-- `0100010_________`, unallocated (R118). -/
  | unallocated0100010
  /-- `LDR Rd, [PC, #Imm]` (F8, R231). -/
  | ldrPc (rd : Reg) (imm8 : BitVec 8)
  /-- `STR Rd, [Rb, Ra]` (F9, R234). -/
  | strReg (rd rb ra : Reg)
  /-- `STR Rd, [Rb], Ra` (F9, R235). -/
  | strRegPost (rd rb ra : Reg)
  /-- `LDR Rd, [Rb, Ra]` (F9, R236). -/
  | ldrReg (rd rb ra : Reg)
  /-- `LDR Rd, [Rb], Ra` (F9, R237). -/
  | ldrRegPost (rd rb ra : Reg)
  /-- `0101__1_________`, the unused Format 10, illegal (F10, R1, R239). -/
  | unusedF10
  /-- `STR Rd, [Rb, #Imm]` (F11, R241). -/
  | strImm (rd rb : Reg) (imm5 : BitVec 5)
  /-- `STR Rd, [Rb], #Imm` (F11, R242). -/
  | strImmPost (rd rb : Reg) (imm5 : BitVec 5)
  /-- `LDR Rd, [Rb, #Imm]` (F11, R243). -/
  | ldrImm (rd rb : Reg) (imm5 : BitVec 5)
  /-- `LDR Rd, [Rb], #Imm` (F11, R244). -/
  | ldrImmPost (rd rb : Reg) (imm5 : BitVec 5)
  /-- `1000____________`, the unused Format 12, illegal (F12, R1, R246). -/
  | unusedF12
  /-- `STR Rd, [SP, #Imm]` (F13, R248). -/
  | strSp (rd : Reg) (imm8 : BitVec 8)
  /-- `LDR Rd, [SP, #Imm]` (F13, R249). -/
  | ldrSp (rd : Reg) (imm8 : BitVec 8)
  /-- `ADD Rd, PC, #Imm` (F14, R261). -/
  | addPc (rd : Reg) (imm8 : BitVec 8)
  /-- `ADD Rd, SP, #Imm` (F14, R262). -/
  | addSp (rd : Reg) (imm8 : BitVec 8)
  /-- `ADD SP, #Imm` (F15, R264). -/
  | addSpImm (imm7 : BitVec 7)
  /-- `SUB SP, #Imm` (F15, R265). -/
  | subSpImm (imm7 : BitVec 7)
  /-- `PUSH { Rlist }` (F16, R268). -/
  | push (rlist : BitVec 8)
  /-- `PUSH { Rlist, LR }` (F16, R268). -/
  | pushLr (rlist : BitVec 8)
  /-- `POP { Rlist }` (F16, R269). -/
  | pop (rlist : BitVec 8)
  /-- `POP { Rlist, PC }` (F16, R269). -/
  | popPc (rlist : BitVec 8)
  /-- `10110001________`, unallocated (R119). -/
  | unallocated1011x0001
  /-- `10110010________`, unallocated (R119). -/
  | unallocated1011x0010
  /-- `10110011________`, unallocated (R119). -/
  | unallocated1011x0011
  /-- `10110110________`, unallocated (R119). -/
  | unallocated1011x0110
  /-- `10110111________`, unallocated (R119). -/
  | unallocated1011x0111
  /-- `10111000________`, unallocated (R119). -/
  | unallocated1011x1000
  /-- `10111001________`, unallocated (R119). -/
  | unallocated1011x1001
  /-- `10111010________`, unallocated (R119). -/
  | unallocated1011x1010
  /-- `10111011________`, unallocated (R119). -/
  | unallocated1011x1011
  /-- `10111110________`, unallocated (R119). -/
  | unallocated1011x1110
  /-- `10111111________`, unallocated (R119). -/
  | unallocated1011x1111
  /-- `STMIA Rb!, { Rlist }` (F17, R272). -/
  | stmia (rb : Reg) (rlist : BitVec 8)
  /-- `LDMIA Rb!, { Rlist }` (F17, R273). -/
  | ldmia (rb : Reg) (rlist : BitVec 8)
  /-- `BEQ label` (F18, R292). -/
  | beq (imm8 : BitVec 8)
  /-- `BNE label` (F18, R292). -/
  | bne (imm8 : BitVec 8)
  /-- `BCS label` (F18, R292). -/
  | bcs (imm8 : BitVec 8)
  /-- `BCC label` (F18, R292). -/
  | bcc (imm8 : BitVec 8)
  /-- `BMI label` (F18, R292). -/
  | bmi (imm8 : BitVec 8)
  /-- `BPL label` (F18, R292). -/
  | bpl (imm8 : BitVec 8)
  /-- `BVS label` (F18, R292). -/
  | bvs (imm8 : BitVec 8)
  /-- `BVC label` (F18, R292). -/
  | bvc (imm8 : BitVec 8)
  /-- `BHI label` (F18, R292). -/
  | bhi (imm8 : BitVec 8)
  /-- `BLS label` (F18, R292). -/
  | bls (imm8 : BitVec 8)
  /-- `BGE label` (F18, R292). -/
  | bge (imm8 : BitVec 8)
  /-- `BLT label` (F18, R292). -/
  | blt (imm8 : BitVec 8)
  /-- `BGT label` (F18, R292). -/
  | bgt (imm8 : BitVec 8)
  /-- `BLE label` (F18, R292). -/
  | ble (imm8 : BitVec 8)
  /-- `11011110________`, illegal (F18, R293). -/
  | illegalCond1110
  /-- `SWI Imm8` (F19, R296). -/
  | swi (imm8 : BitVec 8)
  /-- `B label` (F20, R299). -/
  | b (imm11 : BitVec 11)
  /-- `11101___________`, unallocated (R120). -/
  | unallocated11101
  /-- `BL label (second word, H=0)` (F22, R304). -/
  | blLo (imm8 : BitVec 8)
  /-- `BL label (first word, H=1)` (F22, R303). -/
  | blHi (imm8 : BitVec 8)
  /-- `BL label` (F21, R301). -/
  | blImm (imm11 : BitVec 11)
  deriving DecidableEq, Repr

end Sys2Proof
end

