-- ==== Sys2Proof/WellFormed.lean ====
section
/-! DEFINITION. Which terms of `Instr` are instructions. A register list of `STMIA`/`LDMIA` must not be empty (R122,
R274), and the rows the table calls illegal or unallocated are no instructions (R117 to R120). Every other field
admits every value of its width (R116). The legality of `MRS`/`MSR` depends on the mode, not on the word (R122). -/

namespace Sys2Proof

/-- Is this term an instruction, by its row and its field values alone? -/
def Instr.wellFormed (i : Instr) : Bool :=
  match i with
  | .lslImm _ _ _ => true
  | .lsrImm _ _ _ => true
  | .asrImm _ _ _ => true
  | .addReg _ _ _ => true
  | .subReg _ _ _ => true
  | .addImm3 _ _ _ => true
  | .subImm3 _ _ _ => true
  | .movImm _ _ => true
  | .cmpImm _ _ => true
  | .addImm8 _ _ => true
  | .subImm8 _ _ => true
  | .and _ _ => true
  | .eor _ _ => true
  | .lslReg _ _ => true
  | .lsrReg _ _ => true
  | .asrReg _ _ => true
  | .adc _ _ => true
  | .sbc _ _ => true
  | .ror _ _ => true
  | .tst _ _ => true
  | .neg _ _ => true
  | .cmpReg _ _ => true
  | .cmn _ _ => true
  | .orr _ _ => true
  | .mul _ _ => true
  | .bic _ _ => true
  | .mvn _ _ => true
  | .bx _ => true
  | .blx _ => true
  | .hwn _ => true
  | .hwq _ => true
  | .hwi _ => true
  | .illegalF6 => false
  | .rfi => true
  | .rsi => true
  | .ifs => true
  | .ifc => true
  | .mrs _ => true
  | .msr _ => true
  | .illegalF7 => false
  | .unallocated0100010 => false
  | .ldrPc _ _ => true
  | .strReg _ _ _ => true
  | .strRegPost _ _ _ => true
  | .ldrReg _ _ _ => true
  | .ldrRegPost _ _ _ => true
  | .unusedF10 => false
  | .strImm _ _ _ => true
  | .strImmPost _ _ _ => true
  | .ldrImm _ _ _ => true
  | .ldrImmPost _ _ _ => true
  | .unusedF12 => false
  | .strSp _ _ => true
  | .ldrSp _ _ => true
  | .addPc _ _ => true
  | .addSp _ _ => true
  | .addSpImm _ => true
  | .subSpImm _ => true
  | .push _ => true
  | .pushLr _ => true
  | .pop _ => true
  | .popPc _ => true
  | .unallocated1011x0001 => false
  | .unallocated1011x0010 => false
  | .unallocated1011x0011 => false
  | .unallocated1011x0110 => false
  | .unallocated1011x0111 => false
  | .unallocated1011x1000 => false
  | .unallocated1011x1001 => false
  | .unallocated1011x1010 => false
  | .unallocated1011x1011 => false
  | .unallocated1011x1110 => false
  | .unallocated1011x1111 => false
  | .stmia _ rlist => rlist != 0#8
  | .ldmia _ rlist => rlist != 0#8
  | .beq _ => true
  | .bne _ => true
  | .bcs _ => true
  | .bcc _ => true
  | .bmi _ => true
  | .bpl _ => true
  | .bvs _ => true
  | .bvc _ => true
  | .bhi _ => true
  | .bls _ => true
  | .bge _ => true
  | .blt _ => true
  | .bgt _ => true
  | .ble _ => true
  | .illegalCond1110 => false
  | .swi _ => true
  | .b _ => true
  | .unallocated11101 => false
  | .blLo _ => true
  | .blHi _ => true
  | .blImm _ => true

end Sys2Proof
end

