-- ==== Sys2Proof/Decode.lean ====
section
/-! DEFINITION. Decoding and encoding of the 16-bit instruction word, both written from the 22 formats of
30_encoding.md (R1, R94 to R115, R117 to R120). Decoding is total: the rows partition the 65536 words (R93), so a word
is an instruction or one of the 18 rows that name an illegal, unused or unallocated pattern. -/

namespace Sys2Proof

/-- `bits[hi:lo]` of a word (R6). -/
def bits (w : Word) (hi lo : Nat) : BitVec (hi - lo + 1) := w.extractLsb' lo (hi - lo + 1)

/-- The register a 3-bit field names (R21). -/
def Reg.ofNum (b : BitVec 3) : Reg :=
  match b.toNat with
  | 0 => .r0
  | 1 => .r1
  | 2 => .r2
  | 3 => .r3
  | 4 => .r4
  | 5 => .r5
  | 6 => .r6
  | _ => .r7

/-- The number of a register (R21). -/
def Reg.num (r : Reg) : BitVec 3 :=
  match r with
  | .r0 => 0#3
  | .r1 => 1#3
  | .r2 => 2#3
  | .r3 => 3#3
  | .r4 => 4#3
  | .r5 => 5#3
  | .r6 => 6#3
  | .r7 => 7#3

/-- The register named by the three bits from `lo` up. -/
def regAt (w : Word) (lo : Nat) : Reg := Reg.ofNum (w.extractLsb' lo 3)

/-- Format 2, bits 10 and 9 (R95). -/
def decodeAddSub (w : Word) : Instr :=
  match (bits w 10 9).toNat with
  | 0 => .addReg (regAt w 0) (regAt w 3) (regAt w 6)
  | 1 => .subReg (regAt w 0) (regAt w 3) (regAt w 6)
  | 2 => .addImm3 (regAt w 0) (regAt w 3) (bits w 8 6)
  | _ => .subImm3 (regAt w 0) (regAt w 3) (bits w 8 6)

/-- Format 4, bits 9..6 (R97). -/
def decodeAlu (w : Word) : Instr :=
  match (bits w 9 6).toNat with
  | 0 => .and (regAt w 0) (regAt w 3)
  | 1 => .eor (regAt w 0) (regAt w 3)
  | 2 => .lslReg (regAt w 0) (regAt w 3)
  | 3 => .lsrReg (regAt w 0) (regAt w 3)
  | 4 => .asrReg (regAt w 0) (regAt w 3)
  | 5 => .adc (regAt w 0) (regAt w 3)
  | 6 => .sbc (regAt w 0) (regAt w 3)
  | 7 => .ror (regAt w 0) (regAt w 3)
  | 8 => .tst (regAt w 0) (regAt w 3)
  | 9 => .neg (regAt w 0) (regAt w 3)
  | 10 => .cmpReg (regAt w 0) (regAt w 3)
  | 11 => .cmn (regAt w 0) (regAt w 3)
  | 12 => .orr (regAt w 0) (regAt w 3)
  | 13 => .mul (regAt w 0) (regAt w 3)
  | 14 => .bic (regAt w 0) (regAt w 3)
  | _ => .mvn (regAt w 0) (regAt w 3)

/-- The words `01000111 ooo __ ddd`: Format 7, bits 7..5 (R100, R117). -/
def decodeStatus (w : Word) : Instr :=
  match (bits w 7 5).toNat with
  | 0 => .rfi
  | 1 => .rsi
  | 2 => .ifs
  | 3 => .ifc
  | 4 => .mrs (regAt w 0)
  | 5 => .msr (regAt w 0)
  | _ => .illegalF7

/-- The words `01000110`: Format 5 where bit 7 is 0 (R98), Format 6 where it is 1 (R99), by bits 7..5. -/
def decodeBxHw (w : Word) : Instr :=
  match (bits w 7 5).toNat with
  | 0 | 1 => .bx (regAt w 0)
  | 2 | 3 => .blx (regAt w 0)
  | 4 => .hwn (regAt w 0)
  | 5 => .hwq (regAt w 0)
  | 6 => .hwi (regAt w 0)
  | _ => .illegalF6

/-- The words `01000`: Format 4 (`010000`), an unallocated region (`0100010`, R118), Formats 5 to 7, by bits
10..8. -/
def decode01000 (w : Word) : Instr :=
  match (bits w 10 8).toNat with
  | 0 | 1 | 2 | 3 => decodeAlu w
  | 4 | 5 => .unallocated0100010
  | 6 => decodeBxHw w
  | _ => decodeStatus w

/-- The words `0101`: Format 9 by bits 11 and 10 where bit 9 is 0 (R102), the unused Format 10 where it is 1
(R103). -/
def decodeRegOffset (w : Word) : Instr :=
  match (bits w 11 9).toNat with
  | 0 => .strReg (regAt w 0) (regAt w 3) (regAt w 6)
  | 2 => .strRegPost (regAt w 0) (regAt w 3) (regAt w 6)
  | 4 => .ldrReg (regAt w 0) (regAt w 3) (regAt w 6)
  | 6 => .ldrRegPost (regAt w 0) (regAt w 3) (regAt w 6)
  | _ => .unusedF10

/-- Format 15, bit 7 (R108). -/
def decodeAdjustSp (w : Word) : Instr :=
  match (bits w 7 7).toNat with
  | 0 => .addSpImm (bits w 6 0)
  | _ => .subSpImm (bits w 6 0)

/-- The words `1011`: Formats 15 and 16 (R108, R109) and the unallocated rest (R119), by bits 11..8. -/
def decode1011 (w : Word) : Instr :=
  match (bits w 11 8).toNat with
  | 0 => decodeAdjustSp w
  | 1 => .unallocated1011x0001
  | 2 => .unallocated1011x0010
  | 3 => .unallocated1011x0011
  | 4 => .push (bits w 7 0)
  | 5 => .pushLr (bits w 7 0)
  | 6 => .unallocated1011x0110
  | 7 => .unallocated1011x0111
  | 8 => .unallocated1011x1000
  | 9 => .unallocated1011x1001
  | 10 => .unallocated1011x1010
  | 11 => .unallocated1011x1011
  | 12 => .pop (bits w 7 0)
  | 13 => .popPc (bits w 7 0)
  | 14 => .unallocated1011x1110
  | _ => .unallocated1011x1111

/-- The words `1101`: the conditional branches, the illegal condition and `SWI`, by bits 11..8 (R111, R112). -/
def decode1101 (w : Word) : Instr :=
  match (bits w 11 8).toNat with
  | 0 => .beq (bits w 7 0)
  | 1 => .bne (bits w 7 0)
  | 2 => .bcs (bits w 7 0)
  | 3 => .bcc (bits w 7 0)
  | 4 => .bmi (bits w 7 0)
  | 5 => .bpl (bits w 7 0)
  | 6 => .bvs (bits w 7 0)
  | 7 => .bvc (bits w 7 0)
  | 8 => .bhi (bits w 7 0)
  | 9 => .bls (bits w 7 0)
  | 10 => .bge (bits w 7 0)
  | 11 => .blt (bits w 7 0)
  | 12 => .bgt (bits w 7 0)
  | 13 => .ble (bits w 7 0)
  | 14 => .illegalCond1110
  | _ => .swi (bits w 7 0)

/-- Format 22, bit 10 (R115). -/
def decodeLongBl (w : Word) : Instr :=
  match (bits w 10 10).toNat with
  | 0 => .blLo (bits w 7 0)
  | _ => .blHi (bits w 7 0)

/-- The row of a 16-bit instruction word, by its five leading bits (R1, R90, the first-level map of R129). -/
def decode (w : Word) : Instr :=
  match (bits w 15 11).toNat with
  | 0 => .lslImm (regAt w 0) (regAt w 3) (bits w 10 6)
  | 1 => .lsrImm (regAt w 0) (regAt w 3) (bits w 10 6)
  | 2 => .asrImm (regAt w 0) (regAt w 3) (bits w 10 6)
  | 3 => decodeAddSub w
  | 4 => .movImm (regAt w 8) (bits w 7 0)
  | 5 => .cmpImm (regAt w 8) (bits w 7 0)
  | 6 => .addImm8 (regAt w 8) (bits w 7 0)
  | 7 => .subImm8 (regAt w 8) (bits w 7 0)
  | 8 => decode01000 w
  | 9 => .ldrPc (regAt w 8) (bits w 7 0)
  | 10 | 11 => decodeRegOffset w
  | 12 => .strImm (regAt w 0) (regAt w 3) (bits w 10 6)
  | 13 => .strImmPost (regAt w 0) (regAt w 3) (bits w 10 6)
  | 14 => .ldrImm (regAt w 0) (regAt w 3) (bits w 10 6)
  | 15 => .ldrImmPost (regAt w 0) (regAt w 3) (bits w 10 6)
  | 16 | 17 => .unusedF12
  | 18 => .strSp (regAt w 8) (bits w 7 0)
  | 19 => .ldrSp (regAt w 8) (bits w 7 0)
  | 20 => .addPc (regAt w 8) (bits w 7 0)
  | 21 => .addSp (regAt w 8) (bits w 7 0)
  | 22 | 23 => decode1011 w
  | 24 => .stmia (regAt w 8) (bits w 7 0)
  | 25 => .ldmia (regAt w 8) (bits w 7 0)
  | 26 | 27 => decode1101 w
  | 28 => .b (bits w 10 0)
  | 29 => .unallocated11101
  | 30 => decodeLongBl w
  | _ => .blImm (bits w 10 0)

/-- The numbered format of an instruction word: one of 22, of which 10 and 12 are unused (R1, R3, R94 to R115); none for
the unallocated patterns, which no format of the source covers (R118 to R120). -/
def Instr.format (i : Instr) : Option Nat :=
  match i with
  | .lslImm .. | .lsrImm .. | .asrImm .. => some 1
  | .addReg .. | .subReg .. | .addImm3 .. | .subImm3 .. => some 2
  | .movImm .. | .cmpImm .. | .addImm8 .. | .subImm8 .. => some 3
  | .and .. | .eor .. | .lslReg .. | .lsrReg .. | .asrReg .. | .adc .. | .sbc .. | .ror .. | .tst .. | .neg ..
  | .cmpReg .. | .cmn .. | .orr .. | .mul .. | .bic .. | .mvn .. => some 4
  | .bx .. | .blx .. => some 5
  | .hwn .. | .hwq .. | .hwi .. | .illegalF6 => some 6
  | .rfi | .rsi | .ifs | .ifc | .mrs .. | .msr .. | .illegalF7 => some 7
  | .ldrPc .. => some 8
  | .strReg .. | .strRegPost .. | .ldrReg .. | .ldrRegPost .. => some 9
  | .unusedF10 => some 10
  | .strImm .. | .strImmPost .. | .ldrImm .. | .ldrImmPost .. => some 11
  | .unusedF12 => some 12
  | .strSp .. | .ldrSp .. => some 13
  | .addPc .. | .addSp .. => some 14
  | .addSpImm .. | .subSpImm .. => some 15
  | .push .. | .pushLr .. | .pop .. | .popPc .. => some 16
  | .stmia .. | .ldmia .. => some 17
  | .beq .. | .bne .. | .bcs .. | .bcc .. | .bmi .. | .bpl .. | .bvs .. | .bvc .. | .bhi .. | .bls .. | .bge ..
  | .blt .. | .bgt .. | .ble .. | .illegalCond1110 => some 18
  | .swi .. => some 19
  | .b .. => some 20
  | .blImm .. => some 21
  | .blLo .. | .blHi .. => some 22
  | .unallocated0100010 | .unallocated1011x0001 | .unallocated1011x0010 | .unallocated1011x0011
  | .unallocated1011x0110 | .unallocated1011x0111 | .unallocated1011x1000 | .unallocated1011x1001
  | .unallocated1011x1010 | .unallocated1011x1011 | .unallocated1011x1110 | .unallocated1011x1111
  | .unallocated11101 => none

/-- The instruction the decoder reads from an opcode-table word of `nbits` bits: every instruction is one word of 16
bits (R90), so the bits above `nbits` are 0 and a longer word is refused (log entry 30). -/
def decodeTableWord (nbits w : Nat) : Option Instr :=
  if nbits ≤ 16 then some (decode (BitVec.ofNat 16 (w % 2 ^ nbits))) else none

/-- A field put at bit `lo` of a word, the other bits 0. -/
def place {k : Nat} (x : BitVec k) (lo : Nat) : Word := x.setWidth 16 <<< lo

/-- The word of an instruction: its row's fixed bits, its fields, and 0 in the don't-care bits (R92, log entry 10). -/
def encode (i : Instr) : Word :=
  match i with
  | .lslImm rd rs imm5 => 0x0000#16 ||| place imm5 6 ||| place rs.num 3 ||| place rd.num 0
  | .lsrImm rd rs imm5 => 0x0800#16 ||| place imm5 6 ||| place rs.num 3 ||| place rd.num 0
  | .asrImm rd rs imm5 => 0x1000#16 ||| place imm5 6 ||| place rs.num 3 ||| place rd.num 0
  | .addReg rd ra rb => 0x1800#16 ||| place rb.num 6 ||| place ra.num 3 ||| place rd.num 0
  | .subReg rd ra rb => 0x1A00#16 ||| place rb.num 6 ||| place ra.num 3 ||| place rd.num 0
  | .addImm3 rd ra imm3 => 0x1C00#16 ||| place imm3 6 ||| place ra.num 3 ||| place rd.num 0
  | .subImm3 rd ra imm3 => 0x1E00#16 ||| place imm3 6 ||| place ra.num 3 ||| place rd.num 0
  | .movImm rd imm8 => 0x2000#16 ||| place rd.num 8 ||| place imm8 0
  | .cmpImm rd imm8 => 0x2800#16 ||| place rd.num 8 ||| place imm8 0
  | .addImm8 rd imm8 => 0x3000#16 ||| place rd.num 8 ||| place imm8 0
  | .subImm8 rd imm8 => 0x3800#16 ||| place rd.num 8 ||| place imm8 0
  | .and rd rs => 0x4000#16 ||| place rs.num 3 ||| place rd.num 0
  | .eor rd rs => 0x4040#16 ||| place rs.num 3 ||| place rd.num 0
  | .lslReg rd rs => 0x4080#16 ||| place rs.num 3 ||| place rd.num 0
  | .lsrReg rd rs => 0x40C0#16 ||| place rs.num 3 ||| place rd.num 0
  | .asrReg rd rs => 0x4100#16 ||| place rs.num 3 ||| place rd.num 0
  | .adc rd rs => 0x4140#16 ||| place rs.num 3 ||| place rd.num 0
  | .sbc rd rs => 0x4180#16 ||| place rs.num 3 ||| place rd.num 0
  | .ror rd rs => 0x41C0#16 ||| place rs.num 3 ||| place rd.num 0
  | .tst rd rs => 0x4200#16 ||| place rs.num 3 ||| place rd.num 0
  | .neg rd rs => 0x4240#16 ||| place rs.num 3 ||| place rd.num 0
  | .cmpReg rd rs => 0x4280#16 ||| place rs.num 3 ||| place rd.num 0
  | .cmn rd rs => 0x42C0#16 ||| place rs.num 3 ||| place rd.num 0
  | .orr rd rs => 0x4300#16 ||| place rs.num 3 ||| place rd.num 0
  | .mul rd rs => 0x4340#16 ||| place rs.num 3 ||| place rd.num 0
  | .bic rd rs => 0x4380#16 ||| place rs.num 3 ||| place rd.num 0
  | .mvn rd rs => 0x43C0#16 ||| place rs.num 3 ||| place rd.num 0
  | .bx ra => 0x4600#16 ||| place ra.num 0
  | .blx ra => 0x4640#16 ||| place ra.num 0
  | .hwn rd => 0x4680#16 ||| place rd.num 0
  | .hwq rd => 0x46A0#16 ||| place rd.num 0
  | .hwi rd => 0x46C0#16 ||| place rd.num 0
  | .illegalF6 => 0x46E0#16
  | .rfi => 0x4700#16
  | .rsi => 0x4720#16
  | .ifs => 0x4740#16
  | .ifc => 0x4760#16
  | .mrs rd => 0x4780#16 ||| place rd.num 0
  | .msr rd => 0x47A0#16 ||| place rd.num 0
  | .illegalF7 => 0x47C0#16
  | .unallocated0100010 => 0x4400#16
  | .ldrPc rd imm8 => 0x4800#16 ||| place rd.num 8 ||| place imm8 0
  | .strReg rd rb ra => 0x5000#16 ||| place ra.num 6 ||| place rb.num 3 ||| place rd.num 0
  | .strRegPost rd rb ra => 0x5400#16 ||| place ra.num 6 ||| place rb.num 3 ||| place rd.num 0
  | .ldrReg rd rb ra => 0x5800#16 ||| place ra.num 6 ||| place rb.num 3 ||| place rd.num 0
  | .ldrRegPost rd rb ra => 0x5C00#16 ||| place ra.num 6 ||| place rb.num 3 ||| place rd.num 0
  | .unusedF10 => 0x5200#16
  | .strImm rd rb imm5 => 0x6000#16 ||| place imm5 6 ||| place rb.num 3 ||| place rd.num 0
  | .strImmPost rd rb imm5 => 0x6800#16 ||| place imm5 6 ||| place rb.num 3 ||| place rd.num 0
  | .ldrImm rd rb imm5 => 0x7000#16 ||| place imm5 6 ||| place rb.num 3 ||| place rd.num 0
  | .ldrImmPost rd rb imm5 => 0x7800#16 ||| place imm5 6 ||| place rb.num 3 ||| place rd.num 0
  | .unusedF12 => 0x8000#16
  | .strSp rd imm8 => 0x9000#16 ||| place rd.num 8 ||| place imm8 0
  | .ldrSp rd imm8 => 0x9800#16 ||| place rd.num 8 ||| place imm8 0
  | .addPc rd imm8 => 0xA000#16 ||| place rd.num 8 ||| place imm8 0
  | .addSp rd imm8 => 0xA800#16 ||| place rd.num 8 ||| place imm8 0
  | .addSpImm imm7 => 0xB000#16 ||| place imm7 0
  | .subSpImm imm7 => 0xB080#16 ||| place imm7 0
  | .push rlist => 0xB400#16 ||| place rlist 0
  | .pushLr rlist => 0xB500#16 ||| place rlist 0
  | .pop rlist => 0xBC00#16 ||| place rlist 0
  | .popPc rlist => 0xBD00#16 ||| place rlist 0
  | .unallocated1011x0001 => 0xB100#16
  | .unallocated1011x0010 => 0xB200#16
  | .unallocated1011x0011 => 0xB300#16
  | .unallocated1011x0110 => 0xB600#16
  | .unallocated1011x0111 => 0xB700#16
  | .unallocated1011x1000 => 0xB800#16
  | .unallocated1011x1001 => 0xB900#16
  | .unallocated1011x1010 => 0xBA00#16
  | .unallocated1011x1011 => 0xBB00#16
  | .unallocated1011x1110 => 0xBE00#16
  | .unallocated1011x1111 => 0xBF00#16
  | .stmia rb rlist => 0xC000#16 ||| place rb.num 8 ||| place rlist 0
  | .ldmia rb rlist => 0xC800#16 ||| place rb.num 8 ||| place rlist 0
  | .beq imm8 => 0xD000#16 ||| place imm8 0
  | .bne imm8 => 0xD100#16 ||| place imm8 0
  | .bcs imm8 => 0xD200#16 ||| place imm8 0
  | .bcc imm8 => 0xD300#16 ||| place imm8 0
  | .bmi imm8 => 0xD400#16 ||| place imm8 0
  | .bpl imm8 => 0xD500#16 ||| place imm8 0
  | .bvs imm8 => 0xD600#16 ||| place imm8 0
  | .bvc imm8 => 0xD700#16 ||| place imm8 0
  | .bhi imm8 => 0xD800#16 ||| place imm8 0
  | .bls imm8 => 0xD900#16 ||| place imm8 0
  | .bge imm8 => 0xDA00#16 ||| place imm8 0
  | .blt imm8 => 0xDB00#16 ||| place imm8 0
  | .bgt imm8 => 0xDC00#16 ||| place imm8 0
  | .ble imm8 => 0xDD00#16 ||| place imm8 0
  | .illegalCond1110 => 0xDE00#16
  | .swi imm8 => 0xDF00#16 ||| place imm8 0
  | .b imm11 => 0xE000#16 ||| place imm11 0
  | .unallocated11101 => 0xE800#16
  | .blLo imm8 => 0xF000#16 ||| place imm8 0
  | .blHi imm8 => 0xF400#16 ||| place imm8 0
  | .blImm imm11 => 0xF800#16 ||| place imm11 0

/-- The mask of an instruction's row: the bits the row fixes (R128, column `mask` of the opcode table). -/
def rowMask (i : Instr) : Word :=
  match i with
  | .lslImm _ _ _ => 0xF800#16
  | .lsrImm _ _ _ => 0xF800#16
  | .asrImm _ _ _ => 0xF800#16
  | .addReg _ _ _ => 0xFE00#16
  | .subReg _ _ _ => 0xFE00#16
  | .addImm3 _ _ _ => 0xFE00#16
  | .subImm3 _ _ _ => 0xFE00#16
  | .movImm _ _ => 0xF800#16
  | .cmpImm _ _ => 0xF800#16
  | .addImm8 _ _ => 0xF800#16
  | .subImm8 _ _ => 0xF800#16
  | .and _ _ => 0xFFC0#16
  | .eor _ _ => 0xFFC0#16
  | .lslReg _ _ => 0xFFC0#16
  | .lsrReg _ _ => 0xFFC0#16
  | .asrReg _ _ => 0xFFC0#16
  | .adc _ _ => 0xFFC0#16
  | .sbc _ _ => 0xFFC0#16
  | .ror _ _ => 0xFFC0#16
  | .tst _ _ => 0xFFC0#16
  | .neg _ _ => 0xFFC0#16
  | .cmpReg _ _ => 0xFFC0#16
  | .cmn _ _ => 0xFFC0#16
  | .orr _ _ => 0xFFC0#16
  | .mul _ _ => 0xFFC0#16
  | .bic _ _ => 0xFFC0#16
  | .mvn _ _ => 0xFFC0#16
  | .bx _ => 0xFFC0#16
  | .blx _ => 0xFFC0#16
  | .hwn _ => 0xFFE0#16
  | .hwq _ => 0xFFE0#16
  | .hwi _ => 0xFFE0#16
  | .illegalF6 => 0xFFE0#16
  | .rfi => 0xFFE0#16
  | .rsi => 0xFFE0#16
  | .ifs => 0xFFE0#16
  | .ifc => 0xFFE0#16
  | .mrs _ => 0xFFE0#16
  | .msr _ => 0xFFE0#16
  | .illegalF7 => 0xFFC0#16
  | .unallocated0100010 => 0xFE00#16
  | .ldrPc _ _ => 0xF800#16
  | .strReg _ _ _ => 0xFE00#16
  | .strRegPost _ _ _ => 0xFE00#16
  | .ldrReg _ _ _ => 0xFE00#16
  | .ldrRegPost _ _ _ => 0xFE00#16
  | .unusedF10 => 0xF200#16
  | .strImm _ _ _ => 0xF800#16
  | .strImmPost _ _ _ => 0xF800#16
  | .ldrImm _ _ _ => 0xF800#16
  | .ldrImmPost _ _ _ => 0xF800#16
  | .unusedF12 => 0xF000#16
  | .strSp _ _ => 0xF800#16
  | .ldrSp _ _ => 0xF800#16
  | .addPc _ _ => 0xF800#16
  | .addSp _ _ => 0xF800#16
  | .addSpImm _ => 0xFF80#16
  | .subSpImm _ => 0xFF80#16
  | .push _ => 0xFF00#16
  | .pushLr _ => 0xFF00#16
  | .pop _ => 0xFF00#16
  | .popPc _ => 0xFF00#16
  | .unallocated1011x0001 => 0xFF00#16
  | .unallocated1011x0010 => 0xFF00#16
  | .unallocated1011x0011 => 0xFF00#16
  | .unallocated1011x0110 => 0xFF00#16
  | .unallocated1011x0111 => 0xFF00#16
  | .unallocated1011x1000 => 0xFF00#16
  | .unallocated1011x1001 => 0xFF00#16
  | .unallocated1011x1010 => 0xFF00#16
  | .unallocated1011x1011 => 0xFF00#16
  | .unallocated1011x1110 => 0xFF00#16
  | .unallocated1011x1111 => 0xFF00#16
  | .stmia _ _ => 0xF800#16
  | .ldmia _ _ => 0xF800#16
  | .beq _ => 0xFF00#16
  | .bne _ => 0xFF00#16
  | .bcs _ => 0xFF00#16
  | .bcc _ => 0xFF00#16
  | .bmi _ => 0xFF00#16
  | .bpl _ => 0xFF00#16
  | .bvs _ => 0xFF00#16
  | .bvc _ => 0xFF00#16
  | .bhi _ => 0xFF00#16
  | .bls _ => 0xFF00#16
  | .bge _ => 0xFF00#16
  | .blt _ => 0xFF00#16
  | .bgt _ => 0xFF00#16
  | .ble _ => 0xFF00#16
  | .illegalCond1110 => 0xFF00#16
  | .swi _ => 0xFF00#16
  | .b _ => 0xF800#16
  | .unallocated11101 => 0xF800#16
  | .blLo _ => 0xFC00#16
  | .blHi _ => 0xFC00#16
  | .blImm _ => 0xF800#16

/-- The fixed bits of an instruction's row (R128, column `match` of the opcode table). -/
def rowMatch (i : Instr) : Word :=
  match i with
  | .lslImm _ _ _ => 0x0000#16
  | .lsrImm _ _ _ => 0x0800#16
  | .asrImm _ _ _ => 0x1000#16
  | .addReg _ _ _ => 0x1800#16
  | .subReg _ _ _ => 0x1A00#16
  | .addImm3 _ _ _ => 0x1C00#16
  | .subImm3 _ _ _ => 0x1E00#16
  | .movImm _ _ => 0x2000#16
  | .cmpImm _ _ => 0x2800#16
  | .addImm8 _ _ => 0x3000#16
  | .subImm8 _ _ => 0x3800#16
  | .and _ _ => 0x4000#16
  | .eor _ _ => 0x4040#16
  | .lslReg _ _ => 0x4080#16
  | .lsrReg _ _ => 0x40C0#16
  | .asrReg _ _ => 0x4100#16
  | .adc _ _ => 0x4140#16
  | .sbc _ _ => 0x4180#16
  | .ror _ _ => 0x41C0#16
  | .tst _ _ => 0x4200#16
  | .neg _ _ => 0x4240#16
  | .cmpReg _ _ => 0x4280#16
  | .cmn _ _ => 0x42C0#16
  | .orr _ _ => 0x4300#16
  | .mul _ _ => 0x4340#16
  | .bic _ _ => 0x4380#16
  | .mvn _ _ => 0x43C0#16
  | .bx _ => 0x4600#16
  | .blx _ => 0x4640#16
  | .hwn _ => 0x4680#16
  | .hwq _ => 0x46A0#16
  | .hwi _ => 0x46C0#16
  | .illegalF6 => 0x46E0#16
  | .rfi => 0x4700#16
  | .rsi => 0x4720#16
  | .ifs => 0x4740#16
  | .ifc => 0x4760#16
  | .mrs _ => 0x4780#16
  | .msr _ => 0x47A0#16
  | .illegalF7 => 0x47C0#16
  | .unallocated0100010 => 0x4400#16
  | .ldrPc _ _ => 0x4800#16
  | .strReg _ _ _ => 0x5000#16
  | .strRegPost _ _ _ => 0x5400#16
  | .ldrReg _ _ _ => 0x5800#16
  | .ldrRegPost _ _ _ => 0x5C00#16
  | .unusedF10 => 0x5200#16
  | .strImm _ _ _ => 0x6000#16
  | .strImmPost _ _ _ => 0x6800#16
  | .ldrImm _ _ _ => 0x7000#16
  | .ldrImmPost _ _ _ => 0x7800#16
  | .unusedF12 => 0x8000#16
  | .strSp _ _ => 0x9000#16
  | .ldrSp _ _ => 0x9800#16
  | .addPc _ _ => 0xA000#16
  | .addSp _ _ => 0xA800#16
  | .addSpImm _ => 0xB000#16
  | .subSpImm _ => 0xB080#16
  | .push _ => 0xB400#16
  | .pushLr _ => 0xB500#16
  | .pop _ => 0xBC00#16
  | .popPc _ => 0xBD00#16
  | .unallocated1011x0001 => 0xB100#16
  | .unallocated1011x0010 => 0xB200#16
  | .unallocated1011x0011 => 0xB300#16
  | .unallocated1011x0110 => 0xB600#16
  | .unallocated1011x0111 => 0xB700#16
  | .unallocated1011x1000 => 0xB800#16
  | .unallocated1011x1001 => 0xB900#16
  | .unallocated1011x1010 => 0xBA00#16
  | .unallocated1011x1011 => 0xBB00#16
  | .unallocated1011x1110 => 0xBE00#16
  | .unallocated1011x1111 => 0xBF00#16
  | .stmia _ _ => 0xC000#16
  | .ldmia _ _ => 0xC800#16
  | .beq _ => 0xD000#16
  | .bne _ => 0xD100#16
  | .bcs _ => 0xD200#16
  | .bcc _ => 0xD300#16
  | .bmi _ => 0xD400#16
  | .bpl _ => 0xD500#16
  | .bvs _ => 0xD600#16
  | .bvc _ => 0xD700#16
  | .bhi _ => 0xD800#16
  | .bls _ => 0xD900#16
  | .bge _ => 0xDA00#16
  | .blt _ => 0xDB00#16
  | .bgt _ => 0xDC00#16
  | .ble _ => 0xDD00#16
  | .illegalCond1110 => 0xDE00#16
  | .swi _ => 0xDF00#16
  | .b _ => 0xE000#16
  | .unallocated11101 => 0xE800#16
  | .blLo _ => 0xF000#16
  | .blHi _ => 0xF400#16
  | .blImm _ => 0xF800#16

/-- The bits of an instruction's row that are not don't-care: the fixed bits and the fields (R92). -/
def careMask (i : Instr) : Word :=
  match i with
  | .lslImm _ _ _ => 0xFFFF#16
  | .lsrImm _ _ _ => 0xFFFF#16
  | .asrImm _ _ _ => 0xFFFF#16
  | .addReg _ _ _ => 0xFFFF#16
  | .subReg _ _ _ => 0xFFFF#16
  | .addImm3 _ _ _ => 0xFFFF#16
  | .subImm3 _ _ _ => 0xFFFF#16
  | .movImm _ _ => 0xFFFF#16
  | .cmpImm _ _ => 0xFFFF#16
  | .addImm8 _ _ => 0xFFFF#16
  | .subImm8 _ _ => 0xFFFF#16
  | .and _ _ => 0xFFFF#16
  | .eor _ _ => 0xFFFF#16
  | .lslReg _ _ => 0xFFFF#16
  | .lsrReg _ _ => 0xFFFF#16
  | .asrReg _ _ => 0xFFFF#16
  | .adc _ _ => 0xFFFF#16
  | .sbc _ _ => 0xFFFF#16
  | .ror _ _ => 0xFFFF#16
  | .tst _ _ => 0xFFFF#16
  | .neg _ _ => 0xFFFF#16
  | .cmpReg _ _ => 0xFFFF#16
  | .cmn _ _ => 0xFFFF#16
  | .orr _ _ => 0xFFFF#16
  | .mul _ _ => 0xFFFF#16
  | .bic _ _ => 0xFFFF#16
  | .mvn _ _ => 0xFFFF#16
  | .bx _ => 0xFFC7#16
  | .blx _ => 0xFFC7#16
  | .hwn _ => 0xFFE7#16
  | .hwq _ => 0xFFE7#16
  | .hwi _ => 0xFFE7#16
  | .illegalF6 => 0xFFE0#16
  | .rfi => 0xFFE0#16
  | .rsi => 0xFFE0#16
  | .ifs => 0xFFE0#16
  | .ifc => 0xFFE0#16
  | .mrs _ => 0xFFE7#16
  | .msr _ => 0xFFE7#16
  | .illegalF7 => 0xFFC0#16
  | .unallocated0100010 => 0xFE00#16
  | .ldrPc _ _ => 0xFFFF#16
  | .strReg _ _ _ => 0xFFFF#16
  | .strRegPost _ _ _ => 0xFFFF#16
  | .ldrReg _ _ _ => 0xFFFF#16
  | .ldrRegPost _ _ _ => 0xFFFF#16
  | .unusedF10 => 0xF200#16
  | .strImm _ _ _ => 0xFFFF#16
  | .strImmPost _ _ _ => 0xFFFF#16
  | .ldrImm _ _ _ => 0xFFFF#16
  | .ldrImmPost _ _ _ => 0xFFFF#16
  | .unusedF12 => 0xF000#16
  | .strSp _ _ => 0xFFFF#16
  | .ldrSp _ _ => 0xFFFF#16
  | .addPc _ _ => 0xFFFF#16
  | .addSp _ _ => 0xFFFF#16
  | .addSpImm _ => 0xFFFF#16
  | .subSpImm _ => 0xFFFF#16
  | .push _ => 0xFFFF#16
  | .pushLr _ => 0xFFFF#16
  | .pop _ => 0xFFFF#16
  | .popPc _ => 0xFFFF#16
  | .unallocated1011x0001 => 0xFF00#16
  | .unallocated1011x0010 => 0xFF00#16
  | .unallocated1011x0011 => 0xFF00#16
  | .unallocated1011x0110 => 0xFF00#16
  | .unallocated1011x0111 => 0xFF00#16
  | .unallocated1011x1000 => 0xFF00#16
  | .unallocated1011x1001 => 0xFF00#16
  | .unallocated1011x1010 => 0xFF00#16
  | .unallocated1011x1011 => 0xFF00#16
  | .unallocated1011x1110 => 0xFF00#16
  | .unallocated1011x1111 => 0xFF00#16
  | .stmia _ _ => 0xFFFF#16
  | .ldmia _ _ => 0xFFFF#16
  | .beq _ => 0xFFFF#16
  | .bne _ => 0xFFFF#16
  | .bcs _ => 0xFFFF#16
  | .bcc _ => 0xFFFF#16
  | .bmi _ => 0xFFFF#16
  | .bpl _ => 0xFFFF#16
  | .bvs _ => 0xFFFF#16
  | .bvc _ => 0xFFFF#16
  | .bhi _ => 0xFFFF#16
  | .bls _ => 0xFFFF#16
  | .bge _ => 0xFFFF#16
  | .blt _ => 0xFFFF#16
  | .bgt _ => 0xFFFF#16
  | .ble _ => 0xFFFF#16
  | .illegalCond1110 => 0xFF00#16
  | .swi _ => 0xFFFF#16
  | .b _ => 0xFFFF#16
  | .unallocated11101 => 0xF800#16
  | .blLo _ => 0xFCFF#16
  | .blHi _ => 0xFCFF#16
  | .blImm _ => 0xFFFF#16

end Sys2Proof
end

