-- ==== Sys2Proof/Machine/Data.lean ====
section
/-! DEFINITION. The plain data the machine's state is made of: the register file, memory, the status register's
fields, and what a device says and does (R20, R29, R60, R203). -/

namespace Sys2Proof.Machine

/-- The eight general registers, shared by all modes (R21). -/
structure Regs where
  r0 : Word
  r1 : Word
  r2 : Word
  r3 : Word
  r4 : Word
  r5 : Word
  r6 : Word
  r7 : Word
  deriving DecidableEq, Repr, Inhabited

/-- Memory: (address, word) pairs, the addressable unit being the 16-bit word (R60, R65: no byte view; log entry 5).
The canonical form is `Memory.wf` of Machine/Ops.lean. -/
abbrev Memory := List (Nat × Word)

/-- The three modes (R31, R342). -/
inductive Mode where
  | user | swi | irq
  deriving DecidableEq, Repr, Inhabited

/-- The fields of `CPSR` (R29). Its reserved bits do not exist as state (R35), so the register is this record;
`Cpsr.toWord` and `Cpsr.ofWord` convert it (R30). -/
structure Cpsr where
  n : Bool
  z : Bool
  c : Bool
  v : Bool
  /-- Interrupts enabled: 1 = enabled (R29, R33). -/
  i : Bool
  m : Mode
  deriving DecidableEq, Repr, Inhabited

/-- The bit positions of the fields in a status word (R30, `CPSR_LAYOUT`); the mode field is bits 4..0. -/
structure CpsrLayout where
  n : Nat
  z : Nat
  c : Nat
  v : Nat
  i : Nat
  deriving DecidableEq, Repr

/-- What a device answers to a query: five words, constant (R203 `Query`). -/
structure DeviceId where
  idLo : Word
  idHi : Word
  version : Word
  mfrLo : Word
  mfrHi : Word
  deriving DecidableEq, Repr, Inhabited

/-- What a device does during an `HWI`: the general registers it leaves, the memory words it writes in order, and
the device state it leaves (R203 `Interrupt`, R207). It can name nothing else (R203). -/
structure HwiEffect where
  regs : Regs
  writes : List (Word × Word)
  devState : List Word
  deriving DecidableEq, Repr, Inhabited

/-- The interrupt a device offers: the 16-bit message (R333), and the device state once the offer is taken, that is
consumed (R334). -/
structure IrqOffer where
  message : Word
  taken : List Word
  deriving DecidableEq, Repr, Inhabited

/-- What the devices do between two instructions: the memory words they write in order, the device state they leave,
and the interrupt they offer, if any (R73, R203 `Tick`, R333, R334). Whether an offer that is not taken is kept or lost
is in `devState`: the devices' own business (R334; log entry 20). -/
structure DeviceTick where
  writes : List (Word × Word)
  devState : List Word
  offer : Option IrqOffer
  deriving DecidableEq, Repr, Inhabited

/-- The devices do nothing: no write, no offer, their state as it was. -/
def DeviceTick.quiet (devState : List Word) : DeviceTick := { writes := [], devState := devState, offer := none }

end Sys2Proof.Machine
end

