-- ==== Sys2Proof/Config.lean ====
section
/-! DEFINITION. The parameters of the machine (R5): those the spec gives a value, and, as constants with no body, those
it leaves OPEN. A statement about an opaque constant holds for every value of it. -/

namespace Sys2Proof.Config

open Sys2Proof.Machine

/-- `SWI_VECTOR` (R5, R296). -/
def swiVector : Word := 0x0010#16

/-- `RESET_PC` (R5, R39, R370). -/
def resetPc : Word := 0x0000#16

/-- `RESET_CPSR` = `$0010`: User mode, interrupts disabled, flags clear (R39, R370). -/
def resetCpsr : Cpsr := { n := false, z := false, c := false, v := false, i := false, m := .user }

/-- `SWI_CPSR` = `$0011`: flags clear, interrupts disabled, SWI mode (R5, R296). -/
def swiCpsr : Cpsr := { n := false, z := false, c := false, v := false, i := false, m := .swi }

/-- `IRQ_CPSR` = `$0012`: flags clear, interrupts disabled, IRQ mode (R5, R335; log entry 15). -/
def irqCpsr : Cpsr := { n := false, z := false, c := false, v := false, i := false, m := .irq }

/-- `CPSR_LAYOUT`: the bit positions of `N`, `Z`, `C`, `V`, `I` (R5, R30; log entry 3). -/
def cpsrLayout : CpsrLayout := { n := 15, z := 14, c := 13, v := 12, i := 7 }

/-- The code of a mode in bits 4..0 of a status word (R31; log entry 3). -/
def modeCode (m : Mode) : BitVec 5 :=
  match m with
  | .user => 0x10#5
  | .swi => 0x11#5
  | .irq => 0x12#5

/-- `HWQ_MAP`: the registers `HWQ` writes with identity low and high, version, manufacturer low and high (R5, R206;
log entry 19). -/
def hwqMap : List Reg := [.r0, .r1, .r2, .r3, .r4]

/-- The word `B .` that marks the end of a run by the spec's convention (R379; log entry 25). -/
def endOfRunWord : Word := 0xE7FF#16

/-- What a memory word holds that nothing has written since launch: the spec leaves it unspecified (R39). DESIGN
CHOICE, unsafe: 0 (log entry 6). -/
def unwrittenWord : Word := 0x0000#16

/-- `IRQ_VECTOR`, OPEN (R5, R335; log entry 15). -/
opaque irqVector : Word

/-- `NDEVICES`, OPEN, 0..65535 (R5, R203, R204; log entry 18). -/
opaque deviceCount : Word

/-- What the device of a number answers to a query: OPEN, constant (R203 `Query`; log entry 18). -/
opaque query : Word → DeviceId

/-- What the device of a number does on `HWI`, from the general registers, the memory and the device state: OPEN (R203
`Interrupt`, R207; log entry 18). -/
opaque hwiEffect : Word → Regs → Memory → List Word → HwiEffect

/-- What the connected devices do between two instructions, from the memory and the device state: OPEN (R203 `Tick`,
R73, R333 `IRQ_SOURCE`; log entry 20). -/
opaque tick : Memory → List Word → DeviceTick

end Sys2Proof.Config
end

