-- ==== Sys2Proof/Machine/State.lean ====
section
/-! DEFINITION. The machine's state, the reasons a step can stop, and the state after reset. -/

namespace Sys2Proof.Machine

/-- The state of the processor, its memory and its devices (R20, R37). Plain data. -/
structure State where
  /-- `r0`..`r7` (R21). -/
  regs : Regs
  /-- The program counter, a word address (R23). -/
  pc : Word
  /-- The stack pointer of User and SWI mode (R26). -/
  spUsr : Word
  /-- The stack pointer of IRQ mode (R26). -/
  spIrq : Word
  /-- The link register of User mode (R27). -/
  lrUsr : Word
  /-- The link register of SWI mode (R27). -/
  lrSwi : Word
  /-- The link register of IRQ mode (R27, log entry 14). -/
  lrIrq : Word
  /-- The current program status register (R29). -/
  cpsr : Cpsr
  /-- The status saved by SWI entry, all 16 bits (R34). -/
  spsrSwi : Word
  /-- The status saved by IRQ entry, all 16 bits (R34). -/
  spsrIrq : Word
  /-- The 65536 words of memory (R60, R62). -/
  mem : Memory
  /-- The devices' own state (R37 item 2, R203 `devstate`; log entry 31). -/
  devState : List Word
  /-- The MODEL's field: the machine stands between two instructions and the devices may act there before the next one
  (R73 power (b), R334; log entry 20). False where no instruction has come before: after reset, and after a load of a
  program. -/
  boundary : Bool
  deriving DecidableEq, Repr

/-- The model faults of the spec (R13, R330): the machine stops and nothing has changed. Both are safe: no claim
about a next state holds of a step that faults. -/
inductive Fault where
  /-- Raised by the 18 illegal, unused and unallocated rows (R117 to R120), by `STMIA`/`LDMIA` with an empty list
  (R274) and by `MRS`/`MSR` in User mode (R215, R216): R341 `IllegalInstruction(address, word)`, the address and the
  word of the offending instruction. Safe (log entry 8). -/
  | illegalInstruction (address word : Word)
  /-- Raised by `RSI` and `RFI` when the saved status names no mode (R35, R211, R212): the address of the instruction
  and the offending status word. Safe (log entry 9). -/
  | reservedMode (address status : Word)
  deriving DecidableEq, Repr

/-- The reasons for which the model declines an instruction. -/
inductive Refusal where
  /-- Raised by an arm of `exec` whose instruction has no meaning yet. Safe. No arm raises it now. -/
  | notModelled (mnemonic : String)
  deriving DecidableEq, Repr

/-- The outcome of an instruction or a step. -/
abbrev Result := Host.Outcome State Fault Refusal

/-- Right after reset (R39, R370): `PC` = `$0000`, `CPSR` = `$0010`, no pending interrupt. The spec states no other
value: the registers are 0, no memory word is listed and the device state is empty (log entries 6, 7, 31; DESIGN CHOICE).
No instruction has come before, so the devices do not act before the first one (R73; log entry 20). -/
def State.reset : State :=
  { regs := { r0 := 0, r1 := 0, r2 := 0, r3 := 0, r4 := 0, r5 := 0, r6 := 0, r7 := 0 }
    pc := Config.resetPc
    spUsr := 0
    spIrq := 0
    lrUsr := 0
    lrSwi := 0
    lrIrq := 0
    cpsr := Config.resetCpsr
    spsrSwi := 0
    spsrIrq := 0
    mem := []
    devState := []
    boundary := false }

end Sys2Proof.Machine
end

