-- ==== Sys2Proof/Machine/Flags.lean ====
section
/-! DEFINITION. The condition codes: the adder and its carry and overflow (R11), `SetNZ` (R12), the shifter and its
carry (R141), and the branch conditions (R291). -/

namespace Sys2Proof.Machine

/-- What the adder gives: the 16-bit sum, the carry out of bit 15, the signed overflow (R11). -/
structure AddResult where
  result : Word
  carry : Bool
  overflow : Bool
  deriving DecidableEq, Repr

/-- `AddWithCarry(a, b, cin)` (R11): exact sums, then the narrowed result compared with them. -/
def addWithCarry (a b : Word) (cin : Bool) : AddResult :=
  let usum : Nat := a.toNat + b.toNat + cin.toNat
  let ssum : Int := a.toInt + b.toInt + (cin.toNat : Int)
  let result : Word := BitVec.ofNat 16 usum
  { result := result
    carry := decide (65536 ≤ usum)
    overflow := decide (ssum ≠ result.toInt) }

/-- `SetNZ(v)`: `N` is bit 15, `Z` the zero test; the other fields stay (R12). -/
def setNZ (v : Word) (p : Cpsr) : Cpsr := { p with n := v.getLsbD 15, z := decide (v = 0#16) }

/-- All four condition codes from an adder result (R146 and the other add, subtract, compare and negate rules). -/
def setNZCV (r : AddResult) (p : Cpsr) : Cpsr :=
  { setNZ r.result p with c := r.carry, v := r.overflow }

/-- The four kinds of shift (R141). -/
inductive ShiftKind where
  | lsl | lsr | asr | ror
  deriving DecidableEq, Repr

/-- `Shift(kind, v, n)`: the result, and the carry out or `none` for `keep` (R141; log entries 1 and 2). -/
def shift (kind : ShiftKind) (v : Word) (n : Nat) : Word × Option Bool :=
  if n = 0 then (v, none)
  else
    match kind with
    | .lsl =>
      if n ≤ 15 then (v <<< n, some (v.getLsbD (16 - n)))
      else if n = 16 then (0#16, some (v.getLsbD 0))
      else (0#16, some false)
    | .lsr =>
      if n ≤ 15 then (v >>> n, some (v.getLsbD (n - 1)))
      else if n = 16 then (0#16, some (v.getLsbD 15))
      else (0#16, some false)
    | .asr =>
      if n ≤ 15 then (v.sshiftRight n, some (v.getLsbD (n - 1)))
      else (if v.getLsbD 15 then 0xFFFF#16 else 0#16, some (v.getLsbD 15))
    | .ror =>
      let k := n % 16
      let res := if k = 0 then v else v >>> k ||| v <<< (16 - k)
      (res, some (res.getLsbD 15))

/-- The flags after a shift: `N`, `Z` from the result, `C` from the shifter unless it is kept, `V` as before
(R142 to R144, R158 to R160, R163; log entry 1). -/
def setShiftFlags (r : Word × Option Bool) (p : Cpsr) : Cpsr :=
  { setNZ r.1 p with c := r.2.getD p.c }

/-- The fourteen conditions of Format 18 (R291). -/
inductive Cond where
  | eq | ne | cs | cc | mi | pl | vs | vc | hi | ls | ge | lt | gt | le
  deriving DecidableEq, Repr

/-- `Cond(cccc)`, the predicate of a condition on the flags (R291). -/
def condHolds (k : Cond) (p : Cpsr) : Bool :=
  match k with
  | .eq => p.z
  | .ne => !p.z
  | .cs => p.c
  | .cc => !p.c
  | .mi => p.n
  | .pl => !p.n
  | .vs => p.v
  | .vc => !p.v
  | .hi => p.c && !p.z
  | .ls => !p.c || p.z
  | .ge => p.n == p.v
  | .lt => p.n != p.v
  | .gt => !p.z && (p.n == p.v)
  | .le => p.z || (p.n != p.v)

end Sys2Proof.Machine
end

