-- ==== Sys2Proof/Machine/Operands.lean ====
section
/-! DEFINITION. Operands: the extension of immediates (R10, R116) and the register list (R109, R110, R267). -/

namespace Sys2Proof.Machine

/-- `zext_16` of a field (R10). -/
def zext {k : Nat} (x : BitVec k) : Word := x.setWidth 16

/-- `sext_16` of a field, used by the offsets of Formats 18 and 20 alone (R10, R116). -/
def sext {k : Nat} (x : BitVec k) : Word := x.signExtend 16

/-- The bit of a register list that selects a register: bit `i` selects `r<i>` (R109). -/
def regIndex (r : Reg) : Nat :=
  match r with
  | .r0 => 0
  | .r1 => 1
  | .r2 => 2
  | .r3 => 3
  | .r4 => 4
  | .r5 => 5
  | .r6 => 6
  | .r7 => 7

/-- The general registers in ascending order. -/
def allRegs : List Reg := [.r0, .r1, .r2, .r3, .r4, .r5, .r6, .r7]

/-- The registers of a list, ascending (R267, R268 `regs`). -/
def listedRegs (rlist : BitVec 8) : List Reg := allRegs.filter (fun r => rlist.getLsbD (regIndex r))

end Sys2Proof.Machine
end

