-- ==== Sys2Proof/Machine/Ops.lean ====
section
/-! DEFINITION. The named operations over registers, memory and status that the meanings are written with: register
and memory access, the current mode's views, the status word, multi-word transfers, taking an exception and returning
from one, the devices' activity between instructions, and fetch. -/

namespace Sys2Proof.Machine

/-! ## General registers (R21) -/

/-- `x[i]` (R8). -/
def Regs.get (g : Regs) (r : Reg) : Word :=
  match r with
  | .r0 => g.r0
  | .r1 => g.r1
  | .r2 => g.r2
  | .r3 => g.r3
  | .r4 => g.r4
  | .r5 => g.r5
  | .r6 => g.r6
  | .r7 => g.r7

/-- `x[i] <- v` (R8). -/
def Regs.set (g : Regs) (r : Reg) (v : Word) : Regs :=
  match r with
  | .r0 => { g with r0 := v }
  | .r1 => { g with r1 := v }
  | .r2 => { g with r2 := v }
  | .r3 => { g with r3 := v }
  | .r4 => { g with r4 := v }
  | .r5 => { g with r5 := v }
  | .r6 => { g with r6 := v }
  | .r7 => { g with r7 := v }

def State.getReg (s : State) (r : Reg) : Word := s.regs.get r

def State.setReg (s : State) (r : Reg) (v : Word) : State := { s with regs := s.regs.set r v }

/-- The values of some registers, all read from one state (R275). -/
def State.getRegs (s : State) (rs : List Reg) : List Word := rs.map s.getReg

/-! ## Memory (R60 to R69) -/

/-- The word at an address: what the list says, or the unwritten word (log entry 6). -/
def Memory.lookup (m : Memory) (k : Nat) : Word :=
  match m with
  | [] => Config.unwrittenWord
  | (k', v) :: rest => if k' = k then v else Memory.lookup rest k

/-- `MemRead(a, 1)` (R9). -/
def Memory.read (m : Memory) (a : Word) : Word := Memory.lookup m a.toNat

/-- The list without an address. -/
def Memory.erase (m : Memory) (k : Nat) : Memory := m.filter (fun e => e.1 != k)

/-- An entry put before the first larger address. -/
def Memory.insertSorted (m : Memory) (k : Nat) (v : Word) : Memory :=
  match m with
  | [] => [(k, v)]
  | (k', v') :: rest => if k < k' then (k, v) :: (k', v') :: rest else (k', v') :: Memory.insertSorted rest k v

/-- `MemWrite(a, 1, v)` (R9): always succeeds (R62). Writing the unwritten word removes the entry, so that equal
memories are equal lists. -/
def Memory.write (m : Memory) (a : Word) (v : Word) : Memory :=
  if v = Config.unwrittenWord then m.erase a.toNat else (m.erase a.toNat).insertSorted a.toNat v

/-- The canonical form: addresses strictly rising and below 2^16, no entry equal to what an unlisted address reads
as. -/
def Memory.wf (m : Memory) : Bool :=
  decide (m.Pairwise (fun x y => x.1 < y.1)) &&
    m.all (fun e => decide (e.1 < 65536) && decide (e.2 ≠ Config.unwrittenWord))

def State.readMem (s : State) (a : Word) : Word := s.mem.read a

def State.writeMem (s : State) (a : Word) (v : Word) : State := { s with mem := s.mem.write a v }

/-- Writes of single words, in order. -/
def Memory.writeAll (m : Memory) (ws : List (Word × Word)) : Memory :=
  match ws with
  | [] => m
  | (a, v) :: rest => (m.write a v).writeAll rest

/-- A multi-word store: the words go to consecutive addresses, ascending, modulo 2^16 (R68, R78). -/
def Memory.storeWords (m : Memory) (a : Word) (vs : List Word) : Memory :=
  match vs with
  | [] => m
  | v :: rest => (m.write a v).storeWords (a + 1#16) rest

/-- A multi-word load: the registers receive the words at consecutive addresses, ascending, modulo 2^16
(R68, R78). -/
def Regs.loadWords (g : Regs) (m : Memory) (a : Word) (rs : List Reg) : Regs :=
  match rs with
  | [] => g
  | r :: rest => (g.set r (m.read a)).loadWords m (a + 1#16) rest

/-! ## The status word (R30, R31, R35) -/

/-- A flag at its bit of the status word. -/
def flagAt (b : Bool) (p : Nat) : Word := (BitVec.ofBool b).setWidth 16 <<< p

/-- `word(CPSR)`: the reserved bits are 0 (R30, R35; log entry 3). -/
def Cpsr.toWord (p : Cpsr) : Word :=
  flagAt p.n Config.cpsrLayout.n ||| flagAt p.z Config.cpsrLayout.z ||| flagAt p.c Config.cpsrLayout.c |||
    flagAt p.v Config.cpsrLayout.v ||| flagAt p.i Config.cpsrLayout.i ||| (Config.modeCode p.m).setWidth 16

/-- The mode a 5-bit code names, if any (R31, R35). -/
def modeOfCode (b : BitVec 5) : Option Mode :=
  if b = Config.modeCode .user then some .user
  else if b = Config.modeCode .swi then some .swi
  else if b = Config.modeCode .irq then some .irq
  else none

/-- `CPSR <- w`: reserved bits are dropped; `none` where the mode field names no mode (R30, R35). -/
def Cpsr.ofWord (w : Word) : Option Cpsr :=
  match modeOfCode (w.setWidth 5) with
  | none => none
  | some m =>
    some
      { n := w.getLsbD Config.cpsrLayout.n
        z := w.getLsbD Config.cpsrLayout.z
        c := w.getLsbD Config.cpsrLayout.c
        v := w.getLsbD Config.cpsrLayout.v
        i := w.getLsbD Config.cpsrLayout.i
        m := m }

/-! ## The current mode's views (R28) -/

/-- `SP`: shared by User and SWI mode, its own in IRQ mode (R26, R28). -/
def State.sp (s : State) : Word :=
  match s.cpsr.m with
  | .user => s.spUsr
  | .swi => s.spUsr
  | .irq => s.spIrq

def State.setSp (s : State) (v : Word) : State :=
  match s.cpsr.m with
  | .user => { s with spUsr := v }
  | .swi => { s with spUsr := v }
  | .irq => { s with spIrq := v }

/-- `LR`: one per mode (R27, R28; log entry 14). -/
def State.lr (s : State) : Word :=
  match s.cpsr.m with
  | .user => s.lrUsr
  | .swi => s.lrSwi
  | .irq => s.lrIrq

def State.setLr (s : State) (v : Word) : State :=
  match s.cpsr.m with
  | .user => { s with lrUsr := v }
  | .swi => { s with lrSwi := v }
  | .irq => { s with lrIrq := v }

/-- `SPSR`: none in User mode (R28, R34). -/
def State.spsr (s : State) : Option Word :=
  match s.cpsr.m with
  | .user => none
  | .swi => some s.spsrSwi
  | .irq => some s.spsrIrq

/-- Write the current mode's `SPSR`, all 16 bits; `none` in User mode (R34, R215). -/
def State.setSpsr (s : State) (v : Word) : Option State :=
  match s.cpsr.m with
  | .user => none
  | .swi => some { s with spsrSwi := v }
  | .irq => some { s with spsrIrq := v }

/-! ## Results and flags together -/

/-- Write an adder result and its four flags (R146 to R149, R153, R154, R161, R162, R165). -/
def State.putSum (s : State) (rd : Reg) (r : AddResult) : State :=
  { s with regs := s.regs.set rd r.result, cpsr := setNZCV r s.cpsr }

/-- The four flags of an adder result, no register written (R152, R166, R167). -/
def State.flagSum (s : State) (r : AddResult) : State := { s with cpsr := setNZCV r s.cpsr }

/-- Write a logical result: `N` and `Z` from it, `C` and `V` as before (R151, R156, R157, R168 to R171; log
entry 1). -/
def State.putLogic (s : State) (rd : Reg) (v : Word) : State :=
  { s with regs := s.regs.set rd v, cpsr := setNZ v s.cpsr }

/-- Write a shift's result and flags (R142 to R144, R158 to R160, R163). -/
def State.putShift (s : State) (rd : Reg) (r : Word × Option Bool) : State :=
  { s with regs := s.regs.set rd r.1, cpsr := setShiftFlags r s.cpsr }

/-! ## Control transfer -/

/-- `pc <- t` (R8). -/
def State.branchTo (s : State) (t : Word) : State := { s with pc := t }

/-- A conditional branch: `pc + offset` where the condition holds, the next word elsewhere (R290, R292). -/
def State.branchIf (s : State) (k : Cond) (imm8 : BitVec 8) : State :=
  if condHolds k s.cpsr then s.branchTo (s.pc + sext imm8) else s

/-! ## Exceptions (R13, R296, R335, R341) -/

/-- `raise Illegal(ins)`: the model fault with the address and the word of the instruction, which stands right before
`pc` (R13, R24, R341; log entry 8). -/
def State.raiseIllegal (s : State) : Result :=
  .fault (.illegalInstruction (s.pc - 1#16) (s.readMem (s.pc - 1#16)))

/-- `enter SWI` (R296): `LR_swi` and `SPSR_swi` save the return address and the status whatever the mode. -/
def State.enterSwi (s : State) : State :=
  { s with
    lrSwi := s.pc
    spsrSwi := s.cpsr.toWord
    cpsr := Config.swiCpsr
    pc := Config.swiVector }

/-- `enter IRQ(msg)` (R335; log entry 15): `SPSR_irq` and `LR_irq` save, `r0` is pushed on the IRQ stack and receives
the message. -/
def State.enterIrq (s : State) (msg : Word) : State :=
  { s with
    spsrIrq := s.cpsr.toWord
    lrIrq := s.pc
    cpsr := Config.irqCpsr
    spIrq := s.spIrq - 1#16
    mem := s.mem.write (s.spIrq - 1#16) (s.getReg .r0)
    regs := s.regs.set .r0 msg
    pc := Config.irqVector }

/-- Return from a SWI (R212): `CPSR <- SPSR_swi`, `pc <- LR_swi`; a reserved mode faults and changes nothing (R35). -/
def State.returnFromSwi (s : State) : Result :=
  match Cpsr.ofWord s.spsrSwi with
  | none => .fault (.reservedMode (s.pc - 1#16) s.spsrSwi)
  | some p => .next { s with cpsr := p, pc := s.lrSwi }

/-- Return from an IRQ (R211; log entry 16): `r0` is popped from the IRQ stack, `CPSR <- SPSR_irq`, `pc <- LR_irq`; a
reserved mode faults and changes nothing (R35). -/
def State.returnFromIrq (s : State) : Result :=
  match Cpsr.ofWord s.spsrIrq with
  | none => .fault (.reservedMode (s.pc - 1#16) s.spsrIrq)
  | some p =>
    .next
      { s with
        regs := s.regs.set .r0 (s.readMem s.spIrq)
        spIrq := s.spIrq + 1#16
        cpsr := p
        pc := s.lrIrq }

/-! ## Devices (R203, R204) -/

/-- Is there a device of this number? (R204) -/
def devicePresent (n : Word) : Bool := decide (n.toNat < Config.deviceCount.toNat)

/-- The five words `HWQ` delivers: the device's answer, zeros for an absent device (R204, R206; log entry 18). -/
def queryAnswer (n : Word) : List Word :=
  if devicePresent n then
    [(Config.query n).idLo, (Config.query n).idHi, (Config.query n).version, (Config.query n).mfrLo,
      (Config.query n).mfrHi]
  else [0#16, 0#16, 0#16, 0#16, 0#16]

/-- Registers written in order with the words of a list. -/
def Regs.setAll (g : Regs) (ws : List (Reg × Word)) : Regs :=
  match ws with
  | [] => g
  | (r, v) :: rest => (g.set r v).setAll rest

/-- Apply what a device does during an `HWI`: registers, memory words and device state, nothing else (R203, R207). -/
def State.applyHwi (s : State) (e : HwiEffect) : State :=
  { s with regs := e.regs, mem := s.mem.writeAll e.writes, devState := e.devState }

/-- Signal a device: its effect if it is present, nothing if it is absent (R204, R207; log entries 18, 21). -/
def State.signalDevice (s : State) (n : Word) : State :=
  if devicePresent n then s.applyHwi (Config.hwiEffect n s.regs s.mem s.devState) else s

/-- What the devices do before the next instruction (R203 `Tick`, R73; log entry 20): between two instructions the
connected devices act on the memory and their own state; with `NDEVICES` = 0, and where no instruction has come before,
nothing happens. -/
def State.nextTick (s : State) : DeviceTick :=
  if s.boundary then
    if Config.deviceCount = 0#16 then DeviceTick.quiet s.devState else Config.tick s.mem s.devState
  else DeviceTick.quiet s.devState

/-- The state after the devices have acted: memory words and device state, nothing else (R73, R203). -/
def State.afterTick (s : State) (d : DeviceTick) : State :=
  { s with
    mem := s.mem.writeAll d.writes
    devState := d.devState
    boundary := false }

/-- The interrupt taken before the next instruction: one is offered and `I` = 1 (R334). -/
def State.takenInterrupt (s : State) (d : DeviceTick) : Option IrqOffer := if s.cpsr.i then d.offer else none

/-- Take an offered interrupt: IRQ entry with its message, and the offer is consumed (R334, R335). -/
def State.takeOffer (s : State) (o : IrqOffer) : State := { s.enterIrq o.message with devState := o.taken }

/-- An instruction, or an interrupt entry, is over: the devices may act before the next instruction (R73, R334). -/
def State.endStep (s : State) : State := { s with boundary := true }

/-- The same for the outcome of an instruction; a stop stays a stop. -/
def endOutcome (r : Result) : Result :=
  match r with
  | .next t => .next t.endStep
  | .fault f => .fault f
  | .refused q => .refused q

/-! ## Fetch (R24, R64) -/

/-- The instruction word at `pc`. -/
def State.fetch (s : State) : Word := s.readMem s.pc

/-- `pc <- pc + 1`, modulo 2^16 (R24, R25). -/
def State.advancePc (s : State) : State := { s with pc := s.pc + 1#16 }

end Sys2Proof.Machine
end

