-- ==== Sys2Proof/Machine/AddSub.lean ====
section
/-! DEFINITION. Formats 2 and 3: add and subtract with a register or a 3-bit literal (R95, R145 to R149), and move,
compare, add and subtract with an 8-bit immediate (R96, R150 to R154). A subtraction adds the complement with carry in
1 (R11). -/

namespace Sys2Proof.Machine

/-- `ADD Rd, Ra, Rb` (R146). -/
def execAddReg (rd ra rb : Reg) (s : State) : Result :=
  .next (s.putSum rd (addWithCarry (s.getReg ra) (s.getReg rb) false))

/-- `SUB Rd, Ra, Rb` (R148). -/
def execSubReg (rd ra rb : Reg) (s : State) : Result :=
  .next (s.putSum rd (addWithCarry (s.getReg ra) (~~~(s.getReg rb)) true))

/-- `ADD Rd, Ra, #Imm` (R147). -/
def execAddImm3 (rd ra : Reg) (imm3 : BitVec 3) (s : State) : Result :=
  .next (s.putSum rd (addWithCarry (s.getReg ra) (zext imm3) false))

/-- `SUB Rd, Ra, #Imm` (R149). -/
def execSubImm3 (rd ra : Reg) (imm3 : BitVec 3) (s : State) : Result :=
  .next (s.putSum rd (addWithCarry (s.getReg ra) (~~~(zext imm3)) true))

/-- `MOV Rd, #Imm` (R151): `C` and `V` as before (log entry 1). -/
def execMovImm (rd : Reg) (imm8 : BitVec 8) (s : State) : Result :=
  .next (s.putLogic rd (zext imm8))

/-- `CMP Rd, #Imm` (R152). -/
def execCmpImm (rd : Reg) (imm8 : BitVec 8) (s : State) : Result :=
  .next (s.flagSum (addWithCarry (s.getReg rd) (~~~(zext imm8)) true))

/-- `ADD Rd, #Imm` (R153). -/
def execAddImm8 (rd : Reg) (imm8 : BitVec 8) (s : State) : Result :=
  .next (s.putSum rd (addWithCarry (s.getReg rd) (zext imm8) false))

/-- `SUB Rd, #Imm` (R154). -/
def execSubImm8 (rd : Reg) (imm8 : BitVec 8) (s : State) : Result :=
  .next (s.putSum rd (addWithCarry (s.getReg rd) (~~~(zext imm8)) true))

end Sys2Proof.Machine
end

