-- ==== Sys2Proof/Machine/Alu.lean ====
section
/-! DEFINITION. Format 4, the sixteen operations on two registers (R97, R155 to R171). Both registers are read before
`Rd` is written (R155). Logical operations and `MUL` leave `C` and `V` (R140, log entry 1). -/

namespace Sys2Proof.Machine

/-- `AND Rd, Rs` (R156). -/
def execAnd (rd rs : Reg) (s : State) : Result := .next (s.putLogic rd (s.getReg rd &&& s.getReg rs))

/-- `EOR Rd, Rs` (R157). -/
def execEor (rd rs : Reg) (s : State) : Result := .next (s.putLogic rd (s.getReg rd ^^^ s.getReg rs))

/-- `LSL Rd, Rs` (R158): the amount is the whole of `Rs` (log entry 2). -/
def execLslReg (rd rs : Reg) (s : State) : Result :=
  .next (s.putShift rd (shift .lsl (s.getReg rd) (s.getReg rs).toNat))

/-- `LSR Rd, Rs` (R159). -/
def execLsrReg (rd rs : Reg) (s : State) : Result :=
  .next (s.putShift rd (shift .lsr (s.getReg rd) (s.getReg rs).toNat))

/-- `ASR Rd, Rs` (R160). -/
def execAsrReg (rd rs : Reg) (s : State) : Result :=
  .next (s.putShift rd (shift .asr (s.getReg rd) (s.getReg rs).toNat))

/-- `ADC Rd, Rs` (R161). -/
def execAdc (rd rs : Reg) (s : State) : Result :=
  .next (s.putSum rd (addWithCarry (s.getReg rd) (s.getReg rs) s.cpsr.c))

/-- `SBC Rd, Rs` (R162): `Rd - Rs - (1 - C)`. -/
def execSbc (rd rs : Reg) (s : State) : Result :=
  .next (s.putSum rd (addWithCarry (s.getReg rd) (~~~(s.getReg rs)) s.cpsr.c))

/-- `ROR Rd, Rs` (R163). -/
def execRor (rd rs : Reg) (s : State) : Result :=
  .next (s.putShift rd (shift .ror (s.getReg rd) (s.getReg rs).toNat))

/-- `TST Rd, Rs` (R164): no register is written. -/
def execTst (rd rs : Reg) (s : State) : Result :=
  .next { s with cpsr := setNZ (s.getReg rd &&& s.getReg rs) s.cpsr }

/-- `NEG Rd, Rs` (R165): the flags of `0 - Rs` (log entry 26). -/
def execNeg (rd rs : Reg) (s : State) : Result :=
  .next (s.putSum rd (addWithCarry 0#16 (~~~(s.getReg rs)) true))

/-- `CMP Rd, Rs` (R166): no register is written. -/
def execCmpReg (rd rs : Reg) (s : State) : Result :=
  .next (s.flagSum (addWithCarry (s.getReg rd) (~~~(s.getReg rs)) true))

/-- `CMN Rd, Rs` (R167): no register is written. -/
def execCmn (rd rs : Reg) (s : State) : Result :=
  .next (s.flagSum (addWithCarry (s.getReg rd) (s.getReg rs) false))

/-- `ORR Rd, Rs` (R168). -/
def execOrr (rd rs : Reg) (s : State) : Result := .next (s.putLogic rd (s.getReg rd ||| s.getReg rs))

/-- `MUL Rd, Rs` (R169): the low 16 bits of the product (log entry 26). -/
def execMul (rd rs : Reg) (s : State) : Result :=
  .next (s.putLogic rd (BitVec.ofNat 16 ((s.getReg rd).toNat * (s.getReg rs).toNat)))

/-- `BIC Rd, Rs` (R170). -/
def execBic (rd rs : Reg) (s : State) : Result := .next (s.putLogic rd (s.getReg rd &&& ~~~(s.getReg rs)))

/-- `MVN Rd, Rs` (R171). -/
def execMvn (rd rs : Reg) (s : State) : Result := .next (s.putLogic rd (~~~(s.getReg rs)))

end Sys2Proof.Machine
end

