-- ==== Sys2Proof/Machine/Branch.lean ====
section
/-! DEFINITION. Control transfer: Format 5 (R200 to R202), Format 18 (R290 to R292), Format 20 (R299), Format 21
(R301) and the two halves of Format 22 (R303, R304). `pc` is the address of the next word (R24); no flag changes. -/

namespace Sys2Proof.Machine

/-- `BX Ra` (R201): all 16 bits go to `pc` (log entry 27). -/
def execBx (ra : Reg) (s : State) : Result := .next (s.branchTo (s.getReg ra))

/-- `BLX Ra` (R202). -/
def execBlx (ra : Reg) (s : State) : Result := .next ((s.setLr s.pc).branchTo (s.getReg ra))

/-- `BEQ` (R291, R292). -/
def execBeq (imm8 : BitVec 8) (s : State) : Result := .next (s.branchIf .eq imm8)

/-- `BNE` (R291, R292). -/
def execBne (imm8 : BitVec 8) (s : State) : Result := .next (s.branchIf .ne imm8)

/-- `BCS` (R291, R292). -/
def execBcs (imm8 : BitVec 8) (s : State) : Result := .next (s.branchIf .cs imm8)

/-- `BCC` (R291, R292). -/
def execBcc (imm8 : BitVec 8) (s : State) : Result := .next (s.branchIf .cc imm8)

/-- `BMI` (R291, R292). -/
def execBmi (imm8 : BitVec 8) (s : State) : Result := .next (s.branchIf .mi imm8)

/-- `BPL` (R291, R292). -/
def execBpl (imm8 : BitVec 8) (s : State) : Result := .next (s.branchIf .pl imm8)

/-- `BVS` (R291, R292). -/
def execBvs (imm8 : BitVec 8) (s : State) : Result := .next (s.branchIf .vs imm8)

/-- `BVC` (R291, R292). -/
def execBvc (imm8 : BitVec 8) (s : State) : Result := .next (s.branchIf .vc imm8)

/-- `BHI` (R291, R292). -/
def execBhi (imm8 : BitVec 8) (s : State) : Result := .next (s.branchIf .hi imm8)

/-- `BLS` (R291, R292). -/
def execBls (imm8 : BitVec 8) (s : State) : Result := .next (s.branchIf .ls imm8)

/-- `BGE` (R291, R292). -/
def execBge (imm8 : BitVec 8) (s : State) : Result := .next (s.branchIf .ge imm8)

/-- `BLT` (R291, R292). -/
def execBlt (imm8 : BitVec 8) (s : State) : Result := .next (s.branchIf .lt imm8)

/-- `BGT` (R291, R292). -/
def execBgt (imm8 : BitVec 8) (s : State) : Result := .next (s.branchIf .gt imm8)

/-- `BLE` (R291, R292). -/
def execBle (imm8 : BitVec 8) (s : State) : Result := .next (s.branchIf .le imm8)

/-- `B label` (R299). -/
def execB (imm11 : BitVec 11) (s : State) : Result := .next (s.branchTo (s.pc + sext imm11))

/-- `BL label`, one word: an absolute address (R301). -/
def execBlImm (imm11 : BitVec 11) (s : State) : Result := .next ((s.setLr s.pc).branchTo (zext imm11))

/-- `BL` high half: `LR[15:8]` = `imm8`, `LR[7:0]` = 0 (R303). -/
def execBlHi (imm8 : BitVec 8) (s : State) : Result := .next (s.setLr (zext imm8 <<< 8))

/-- `BL` low half: branch to `LR OR imm8` and link (R304). -/
def execBlLo (imm8 : BitVec 8) (s : State) : Result := .next ((s.setLr s.pc).branchTo (s.lr ||| zext imm8))

end Sys2Proof.Machine
end

