-- ==== Sys2Proof/Machine/Hardware.lean ====
section
/-! DEFINITION. Format 6, the three instructions that talk to the DCPU-16 devices (R1, R99, R203 to R207). The devices
are the open parameters of Config (log entry 18). No flag changes. -/

namespace Sys2Proof.Machine

/-- `HWN Rd` (R1, R205). -/
def execHwn (rd : Reg) (s : State) : Result := .next (s.setReg rd Config.deviceCount)

/-- `HWQ Rd` (R1, R206): the device number is read before the registers of `HWQ_MAP` are written (log entry 19). -/
def execHwq (rd : Reg) (s : State) : Result :=
  .next { s with regs := s.regs.setAll (Config.hwqMap.zip (queryAnswer (s.getReg rd))) }

/-- `HWI Rd` (R1, R207). -/
def execHwi (rd : Reg) (s : State) : Result := .next (s.signalDevice (s.getReg rd))

end Sys2Proof.Machine
end

