-- ==== Sys2Proof/Machine/Illegal.lean ====
section
/-! DEFINITION. The 18 illegal, unused and unallocated patterns: each raises `Illegal(ins)` in every mode and changes
no state (R117 to R121, R341; log entry 8). One definition per row of the opcode table. -/

namespace Sys2Proof.Machine

/-- `01000110111_____`: illegal (R208, R341). -/
def execIllegalF6 (s : State) : Result := s.raiseIllegal

/-- `0100011111______`: illegal (R217, R341). -/
def execIllegalF7 (s : State) : Result := s.raiseIllegal

/-- `0100010_________`: unallocated (R118, R341). -/
def execUnallocated0100010 (s : State) : Result := s.raiseIllegal

/-- `0101__1_________`: the unused Format 10, illegal (R1, R239, R341). -/
def execUnusedF10 (s : State) : Result := s.raiseIllegal

/-- `1000____________`: the unused Format 12, illegal (R1, R246, R341). -/
def execUnusedF12 (s : State) : Result := s.raiseIllegal

/-- `10110001________`: unallocated (R119, R341). -/
def execUnallocated1011x0001 (s : State) : Result := s.raiseIllegal

/-- `10110010________`: unallocated (R119, R341). -/
def execUnallocated1011x0010 (s : State) : Result := s.raiseIllegal

/-- `10110011________`: unallocated (R119, R341). -/
def execUnallocated1011x0011 (s : State) : Result := s.raiseIllegal

/-- `10110110________`: unallocated (R119, R341). -/
def execUnallocated1011x0110 (s : State) : Result := s.raiseIllegal

/-- `10110111________`: unallocated (R119, R341). -/
def execUnallocated1011x0111 (s : State) : Result := s.raiseIllegal

/-- `10111000________`: unallocated (R119, R341). -/
def execUnallocated1011x1000 (s : State) : Result := s.raiseIllegal

/-- `10111001________`: unallocated (R119, R341). -/
def execUnallocated1011x1001 (s : State) : Result := s.raiseIllegal

/-- `10111010________`: unallocated (R119, R341). -/
def execUnallocated1011x1010 (s : State) : Result := s.raiseIllegal

/-- `10111011________`: unallocated (R119, R341). -/
def execUnallocated1011x1011 (s : State) : Result := s.raiseIllegal

/-- `10111110________`: unallocated (R119, R341). -/
def execUnallocated1011x1110 (s : State) : Result := s.raiseIllegal

/-- `10111111________`: unallocated (R119, R341). -/
def execUnallocated1011x1111 (s : State) : Result := s.raiseIllegal

/-- `11011110________`: illegal (R293, R341). -/
def execIllegalCond1110 (s : State) : Result := s.raiseIllegal

/-- `11101___________`: unallocated (R120, R341). -/
def execUnallocated11101 (s : State) : Result := s.raiseIllegal

end Sys2Proof.Machine
end

