-- ==== Sys2Proof/Machine/LoadStore.lean ====
section
/-! DEFINITION. Formats 8, 9, 11 and 13, single-word loads and stores (R230 to R249). Registers are read first, then
memory is accessed, then `Rd` is written, and the base writeback is the last write (R230 item 5, R238, log entry 12).
Addresses wrap modulo 2^16 (R68). No flag changes. -/

namespace Sys2Proof.Machine

/-- `LDR Rd, [PC, #Imm]` (R231). -/
def execLdrPc (rd : Reg) (imm8 : BitVec 8) (s : State) : Result :=
  .next (s.setReg rd (s.readMem (s.pc + zext imm8)))

/-- `STR Rd, [Rb, Ra]` (R234). -/
def execStrReg (rd rb ra : Reg) (s : State) : Result :=
  .next (s.writeMem (s.getReg rb + s.getReg ra) (s.getReg rd))

/-- `STR Rd, [Rb], Ra` (R235). -/
def execStrRegPost (rd rb ra : Reg) (s : State) : Result :=
  .next ((s.writeMem (s.getReg rb) (s.getReg rd)).setReg rb (s.getReg rb + s.getReg ra))

/-- `LDR Rd, [Rb, Ra]` (R236). -/
def execLdrReg (rd rb ra : Reg) (s : State) : Result :=
  .next (s.setReg rd (s.readMem (s.getReg rb + s.getReg ra)))

/-- `LDR Rd, [Rb], Ra` (R237): the writeback wins where `Rd` = `Rb`. -/
def execLdrRegPost (rd rb ra : Reg) (s : State) : Result :=
  .next ((s.setReg rd (s.readMem (s.getReg rb))).setReg rb (s.getReg rb + s.getReg ra))

/-- `STR Rd, [Rb, #Imm]` (R241). -/
def execStrImm (rd rb : Reg) (imm5 : BitVec 5) (s : State) : Result :=
  .next (s.writeMem (s.getReg rb + zext imm5) (s.getReg rd))

/-- `STR Rd, [Rb], #Imm` (R242). -/
def execStrImmPost (rd rb : Reg) (imm5 : BitVec 5) (s : State) : Result :=
  .next ((s.writeMem (s.getReg rb) (s.getReg rd)).setReg rb (s.getReg rb + zext imm5))

/-- `LDR Rd, [Rb, #Imm]` (R243). -/
def execLdrImm (rd rb : Reg) (imm5 : BitVec 5) (s : State) : Result :=
  .next (s.setReg rd (s.readMem (s.getReg rb + zext imm5)))

/-- `LDR Rd, [Rb], #Imm` (R244): the writeback wins where `Rd` = `Rb`. -/
def execLdrImmPost (rd rb : Reg) (imm5 : BitVec 5) (s : State) : Result :=
  .next ((s.setReg rd (s.readMem (s.getReg rb))).setReg rb (s.getReg rb + zext imm5))

/-- `STR Rd, [SP, #Imm]` (R248). -/
def execStrSp (rd : Reg) (imm8 : BitVec 8) (s : State) : Result :=
  .next (s.writeMem (s.sp + zext imm8) (s.getReg rd))

/-- `LDR Rd, [SP, #Imm]` (R249). -/
def execLdrSp (rd : Reg) (imm8 : BitVec 8) (s : State) : Result :=
  .next (s.setReg rd (s.readMem (s.sp + zext imm8)))

end Sys2Proof.Machine
end

