-- ==== Sys2Proof/Machine/ShiftImm.lean ====
section
/-! DEFINITION. Format 1, shifts by a 5-bit immediate (R94, R142 to R144). An amount of 0 is a shift by 0 (R141, log
entry 2). -/

namespace Sys2Proof.Machine

/-- `LSL Rd, Rs, #Imm` (R142). -/
def execLslImm (rd rs : Reg) (imm5 : BitVec 5) (s : State) : Result :=
  .next (s.putShift rd (shift .lsl (s.getReg rs) imm5.toNat))

/-- `LSR Rd, Rs, #Imm` (R143). -/
def execLsrImm (rd rs : Reg) (imm5 : BitVec 5) (s : State) : Result :=
  .next (s.putShift rd (shift .lsr (s.getReg rs) imm5.toNat))

/-- `ASR Rd, Rs, #Imm` (R144). -/
def execAsrImm (rd rs : Reg) (imm5 : BitVec 5) (s : State) : Result :=
  .next (s.putShift rd (shift .asr (s.getReg rs) imm5.toNat))

end Sys2Proof.Machine
end

