-- ==== Sys2Proof/Machine/Stack.lean ====
section
/-! DEFINITION. Format 14, an address into a register (R260 to R262); Format 15, adjust `SP` (R263 to R265); Format 16,
push and pop (R266 to R270); Format 17, multiple load and store (R271 to R275). All registers of a store and the base
are read before the first write; the base or `SP` update is the last write (R275, log entries 12, 13). -/

namespace Sys2Proof.Machine

/-- Push some words: `SP` falls by their number and they stand at the new `SP` and up (R266, R268). -/
def State.pushWords (s : State) (vs : List Word) : State :=
  let a : Word := s.sp - BitVec.ofNat 16 vs.length
  ({ s with mem := s.mem.storeWords a vs }).setSp a

/-- Pop some registers: they receive the words at `SP` and up; `SP` rises by their number (R266, R269). -/
def State.popRegs (s : State) (rs : List Reg) : State :=
  ({ s with regs := s.regs.loadWords s.mem s.sp rs }).setSp (s.sp + BitVec.ofNat 16 rs.length)

/-- `ADD Rd, PC, #Imm` (R261). -/
def execAddPc (rd : Reg) (imm8 : BitVec 8) (s : State) : Result := .next (s.setReg rd (s.pc + zext imm8))

/-- `ADD Rd, SP, #Imm` (R262). -/
def execAddSp (rd : Reg) (imm8 : BitVec 8) (s : State) : Result := .next (s.setReg rd (s.sp + zext imm8))

/-- `ADD SP, #Imm` (R264). -/
def execAddSpImm (imm7 : BitVec 7) (s : State) : Result := .next (s.setSp (s.sp + zext imm7))

/-- `SUB SP, #Imm` (R265). -/
def execSubSpImm (imm7 : BitVec 7) (s : State) : Result := .next (s.setSp (s.sp - zext imm7))

/-- `PUSH { Rlist }` (R268); the empty list does nothing (R270, log entry 11). -/
def execPush (rlist : BitVec 8) (s : State) : Result :=
  .next (s.pushWords (s.getRegs (listedRegs rlist)))

/-- `PUSH { Rlist, LR }` (R268): `LR` at the highest address. -/
def execPushLr (rlist : BitVec 8) (s : State) : Result :=
  .next (s.pushWords (s.getRegs (listedRegs rlist) ++ [s.lr]))

/-- `POP { Rlist }` (R269); the empty list does nothing (R270, log entry 11). -/
def execPop (rlist : BitVec 8) (s : State) : Result := .next (s.popRegs (listedRegs rlist))

/-- `POP { Rlist, PC }` (R269): `PC` from the highest address, all 16 bits (log entry 27). -/
def execPopPc (rlist : BitVec 8) (s : State) : Result :=
  let top : Word := s.sp + BitVec.ofNat 16 (listedRegs rlist).length
  .next (((s.popRegs (listedRegs rlist)).setSp (top + 1#16)).branchTo (s.readMem top))

/-- `STMIA Rb!, { Rlist }` (R272): an empty list is illegal (R274); `Rb` in the list stores its old value (R275). -/
def execStmia (rb : Reg) (rlist : BitVec 8) (s : State) : Result :=
  if rlist = 0#8 then s.raiseIllegal
  else
    .next
      (({ s with mem := s.mem.storeWords (s.getReg rb) (s.getRegs (listedRegs rlist)) }).setReg rb
        (s.getReg rb + BitVec.ofNat 16 (listedRegs rlist).length))

/-- `LDMIA Rb!, { Rlist }` (R273): an empty list is illegal (R274); the writeback wins where `Rb` is in the list
(R275). -/
def execLdmia (rb : Reg) (rlist : BitVec 8) (s : State) : Result :=
  if rlist = 0#8 then s.raiseIllegal
  else
    .next
      (({ s with regs := s.regs.loadWords s.mem (s.getReg rb) (listedRegs rlist) }).setReg rb
        (s.getReg rb + BitVec.ofNat 16 (listedRegs rlist).length))

end Sys2Proof.Machine
end

