-- ==== Sys2Proof/Machine/StatusReg.lean ====
section
/-! DEFINITION. Format 7, the returns from exceptions, the interrupt flag and the saved status (R100, R210 to R216),
and Format 19, `SWI` (R295, R296). Only `MRS` and `MSR` check the mode (R218, log entry 17). -/

namespace Sys2Proof.Machine

/-- `RFI` (R211): the IRQ bank whatever the mode. -/
def execRfi (s : State) : Result := s.returnFromIrq

/-- `RSI` (R212): the SWI bank whatever the mode. -/
def execRsi (s : State) : Result := s.returnFromSwi

/-- `IFS` (R213). -/
def execIfs (s : State) : Result := .next { s with cpsr := { s.cpsr with i := true } }

/-- `IFC` (R214). -/
def execIfc (s : State) : Result := .next { s with cpsr := { s.cpsr with i := false } }

/-- `MRS Rd` (R215): register to the current mode's `SPSR`; illegal in User mode (log entries 8, 29). -/
def execMrs (rd : Reg) (s : State) : Result :=
  match s.setSpsr (s.getReg rd) with
  | none => s.raiseIllegal
  | some t => .next t

/-- `MSR Rd` (R216): the current mode's `SPSR` to a register; illegal in User mode (log entries 8, 29). -/
def execMsr (rd : Reg) (s : State) : Result :=
  match s.spsr with
  | none => s.raiseIllegal
  | some w => .next (s.setReg rd w)

/-- `SWI Imm8` (R296): the immediate is ignored by the processor (R295). -/
def execSwi (_imm8 : BitVec 8) (s : State) : Result := .next s.enterSwi

end Sys2Proof.Machine
end

