-- ==== Sys2Proof/Machine/Dispatch.lean ====
section
/-! DEFINITION. One arm per instruction: the call of its meaning. `pc` has been advanced past the instruction (R24). -/

namespace Sys2Proof.Machine

def exec (i : Instr) (s : State) : Host.Outcome State Fault Refusal :=
  match i with
  | .lslImm rd rs imm5 => Sys2Proof.Machine.execLslImm rd rs imm5 s
  | .lsrImm rd rs imm5 => Sys2Proof.Machine.execLsrImm rd rs imm5 s
  | .asrImm rd rs imm5 => Sys2Proof.Machine.execAsrImm rd rs imm5 s
  | .addReg rd ra rb => Sys2Proof.Machine.execAddReg rd ra rb s
  | .subReg rd ra rb => Sys2Proof.Machine.execSubReg rd ra rb s
  | .addImm3 rd ra imm3 => Sys2Proof.Machine.execAddImm3 rd ra imm3 s
  | .subImm3 rd ra imm3 => Sys2Proof.Machine.execSubImm3 rd ra imm3 s
  | .movImm rd imm8 => Sys2Proof.Machine.execMovImm rd imm8 s
  | .cmpImm rd imm8 => Sys2Proof.Machine.execCmpImm rd imm8 s
  | .addImm8 rd imm8 => Sys2Proof.Machine.execAddImm8 rd imm8 s
  | .subImm8 rd imm8 => Sys2Proof.Machine.execSubImm8 rd imm8 s
  | .and rd rs => Sys2Proof.Machine.execAnd rd rs s
  | .eor rd rs => Sys2Proof.Machine.execEor rd rs s
  | .lslReg rd rs => Sys2Proof.Machine.execLslReg rd rs s
  | .lsrReg rd rs => Sys2Proof.Machine.execLsrReg rd rs s
  | .asrReg rd rs => Sys2Proof.Machine.execAsrReg rd rs s
  | .adc rd rs => Sys2Proof.Machine.execAdc rd rs s
  | .sbc rd rs => Sys2Proof.Machine.execSbc rd rs s
  | .ror rd rs => Sys2Proof.Machine.execRor rd rs s
  | .tst rd rs => Sys2Proof.Machine.execTst rd rs s
  | .neg rd rs => Sys2Proof.Machine.execNeg rd rs s
  | .cmpReg rd rs => Sys2Proof.Machine.execCmpReg rd rs s
  | .cmn rd rs => Sys2Proof.Machine.execCmn rd rs s
  | .orr rd rs => Sys2Proof.Machine.execOrr rd rs s
  | .mul rd rs => Sys2Proof.Machine.execMul rd rs s
  | .bic rd rs => Sys2Proof.Machine.execBic rd rs s
  | .mvn rd rs => Sys2Proof.Machine.execMvn rd rs s
  | .bx ra => Sys2Proof.Machine.execBx ra s
  | .blx ra => Sys2Proof.Machine.execBlx ra s
  | .hwn rd => Sys2Proof.Machine.execHwn rd s
  | .hwq rd => Sys2Proof.Machine.execHwq rd s
  | .hwi rd => Sys2Proof.Machine.execHwi rd s
  | .illegalF6 => Sys2Proof.Machine.execIllegalF6 s
  | .rfi => Sys2Proof.Machine.execRfi s
  | .rsi => Sys2Proof.Machine.execRsi s
  | .ifs => Sys2Proof.Machine.execIfs s
  | .ifc => Sys2Proof.Machine.execIfc s
  | .mrs rd => Sys2Proof.Machine.execMrs rd s
  | .msr rd => Sys2Proof.Machine.execMsr rd s
  | .illegalF7 => Sys2Proof.Machine.execIllegalF7 s
  | .unallocated0100010 => Sys2Proof.Machine.execUnallocated0100010 s
  | .ldrPc rd imm8 => Sys2Proof.Machine.execLdrPc rd imm8 s
  | .strReg rd rb ra => Sys2Proof.Machine.execStrReg rd rb ra s
  | .strRegPost rd rb ra => Sys2Proof.Machine.execStrRegPost rd rb ra s
  | .ldrReg rd rb ra => Sys2Proof.Machine.execLdrReg rd rb ra s
  | .ldrRegPost rd rb ra => Sys2Proof.Machine.execLdrRegPost rd rb ra s
  | .unusedF10 => Sys2Proof.Machine.execUnusedF10 s
  | .strImm rd rb imm5 => Sys2Proof.Machine.execStrImm rd rb imm5 s
  | .strImmPost rd rb imm5 => Sys2Proof.Machine.execStrImmPost rd rb imm5 s
  | .ldrImm rd rb imm5 => Sys2Proof.Machine.execLdrImm rd rb imm5 s
  | .ldrImmPost rd rb imm5 => Sys2Proof.Machine.execLdrImmPost rd rb imm5 s
  | .unusedF12 => Sys2Proof.Machine.execUnusedF12 s
  | .strSp rd imm8 => Sys2Proof.Machine.execStrSp rd imm8 s
  | .ldrSp rd imm8 => Sys2Proof.Machine.execLdrSp rd imm8 s
  | .addPc rd imm8 => Sys2Proof.Machine.execAddPc rd imm8 s
  | .addSp rd imm8 => Sys2Proof.Machine.execAddSp rd imm8 s
  | .addSpImm imm7 => Sys2Proof.Machine.execAddSpImm imm7 s
  | .subSpImm imm7 => Sys2Proof.Machine.execSubSpImm imm7 s
  | .push rlist => Sys2Proof.Machine.execPush rlist s
  | .pushLr rlist => Sys2Proof.Machine.execPushLr rlist s
  | .pop rlist => Sys2Proof.Machine.execPop rlist s
  | .popPc rlist => Sys2Proof.Machine.execPopPc rlist s
  | .unallocated1011x0001 => Sys2Proof.Machine.execUnallocated1011x0001 s
  | .unallocated1011x0010 => Sys2Proof.Machine.execUnallocated1011x0010 s
  | .unallocated1011x0011 => Sys2Proof.Machine.execUnallocated1011x0011 s
  | .unallocated1011x0110 => Sys2Proof.Machine.execUnallocated1011x0110 s
  | .unallocated1011x0111 => Sys2Proof.Machine.execUnallocated1011x0111 s
  | .unallocated1011x1000 => Sys2Proof.Machine.execUnallocated1011x1000 s
  | .unallocated1011x1001 => Sys2Proof.Machine.execUnallocated1011x1001 s
  | .unallocated1011x1010 => Sys2Proof.Machine.execUnallocated1011x1010 s
  | .unallocated1011x1011 => Sys2Proof.Machine.execUnallocated1011x1011 s
  | .unallocated1011x1110 => Sys2Proof.Machine.execUnallocated1011x1110 s
  | .unallocated1011x1111 => Sys2Proof.Machine.execUnallocated1011x1111 s
  | .stmia rb rlist => Sys2Proof.Machine.execStmia rb rlist s
  | .ldmia rb rlist => Sys2Proof.Machine.execLdmia rb rlist s
  | .beq imm8 => Sys2Proof.Machine.execBeq imm8 s
  | .bne imm8 => Sys2Proof.Machine.execBne imm8 s
  | .bcs imm8 => Sys2Proof.Machine.execBcs imm8 s
  | .bcc imm8 => Sys2Proof.Machine.execBcc imm8 s
  | .bmi imm8 => Sys2Proof.Machine.execBmi imm8 s
  | .bpl imm8 => Sys2Proof.Machine.execBpl imm8 s
  | .bvs imm8 => Sys2Proof.Machine.execBvs imm8 s
  | .bvc imm8 => Sys2Proof.Machine.execBvc imm8 s
  | .bhi imm8 => Sys2Proof.Machine.execBhi imm8 s
  | .bls imm8 => Sys2Proof.Machine.execBls imm8 s
  | .bge imm8 => Sys2Proof.Machine.execBge imm8 s
  | .blt imm8 => Sys2Proof.Machine.execBlt imm8 s
  | .bgt imm8 => Sys2Proof.Machine.execBgt imm8 s
  | .ble imm8 => Sys2Proof.Machine.execBle imm8 s
  | .illegalCond1110 => Sys2Proof.Machine.execIllegalCond1110 s
  | .swi imm8 => Sys2Proof.Machine.execSwi imm8 s
  | .b imm11 => Sys2Proof.Machine.execB imm11 s
  | .unallocated11101 => Sys2Proof.Machine.execUnallocated11101 s
  | .blLo imm8 => Sys2Proof.Machine.execBlLo imm8 s
  | .blHi imm8 => Sys2Proof.Machine.execBlHi imm8 s
  | .blImm imm11 => Sys2Proof.Machine.execBlImm imm11 s

end Sys2Proof.Machine
end

