-- ==== Sys2Proof/Machine/Boundary.lean ====
section
/-! DEFINITION. One step of the processor, given what the devices do before it (R24, R73, R334). -/

namespace Sys2Proof.Machine

/-- The devices act as `d` says; then an offered interrupt is taken if `I` = 1, or else one instruction is fetched at
`pc`, `pc` advances, and the instruction executes (R24, R73, R334). -/
def stepWith (d : DeviceTick) (s : State) : Result :=
  match s.takenInterrupt d with
  | some o => .next ((s.afterTick d).takeOffer o).endStep
  | none => endOutcome (exec (decode (s.afterTick d).fetch) (s.afterTick d).advancePc)

/-- The word at `pc`, and no device activity before it (log entries 24 and 30). -/
def State.placeWord (s : State) (nbits w : Nat) : State :=
  { s with mem := s.mem.write s.pc (BitVec.ofNat 16 (w % 2 ^ nbits)), boundary := false }

end Sys2Proof.Machine
end

