-- ==== Sys2Proof/Machine/Step.lean ====
section
/-! DEFINITION. The step of the machine, and the placing of an instruction where the step fetches it. -/

namespace Sys2Proof.Machine

/-- One step, the devices acting as `Config.tick` says where they may act (R203, R334). -/
def step (s : State) : Host.Outcome State Fault Refusal := stepWith s.nextTick s

/-- An instruction placed where `step` fetches next, as a program is loaded before a run: the next step runs it (log
entries 24 and 30). -/
def State.withFetchWord (s : State) (nbits w : Nat) : State := s.placeWord nbits w

end Sys2Proof.Machine
end

