-- ==== Sys2Proof/Safety.lean ====
section
/-! DEFINITION. What counts as a safe run, and the terms the claims are written in: what stays the same across an
instruction, the arithmetic meaning of the condition codes, and which instructions may touch which state. These are
written from the spec's rules, not from the meanings. -/

namespace Sys2Proof.Claims

open Sys2Proof.Machine

/-! ## Runs -/

/-- `k` steps are possible without a fault or a refusal. -/
def RunsSafely (s : State) (k : Nat) : Prop :=
  match k with
  | 0 => True
  | k + 1 => ∃ t, step s = .next t ∧ RunsSafely t k

/-- The run has ended by the spec's convention: `B .` at `pc` and `I` = 0 (R379; log entry 25). -/
def ended (s : State) : Bool := s.readMem s.pc == Config.endOfRunWord && !s.cpsr.i

/-! ## Frames -/

/-- Every general register but some holds what it held. -/
def KeepsRegsBut (ds : List Reg) (s t : State) : Prop := ∀ r, r ∉ ds → t.getReg r = s.getReg r

/-- Every word of memory reads as before. -/
def KeepsMemory (s t : State) : Prop := ∀ a, t.readMem a = s.readMem a

/-- Every word of memory outside the `n` words at `a` and up (modulo 2^16) reads as before. -/
def KeepsMemoryOutside (a : Word) (n : Nat) (s t : State) : Prop :=
  ∀ b, (∀ k, k < n → b ≠ a + BitVec.ofNat 16 k) → t.readMem b = s.readMem b

/-- Both stack pointers are unchanged. -/
def KeepsSp (s t : State) : Prop := t.spUsr = s.spUsr ∧ t.spIrq = s.spIrq

/-- The stack pointer that is not the current mode's view is unchanged. -/
def KeepsOtherSp (s t : State) : Prop :=
  (s.cpsr.m = .irq → t.spUsr = s.spUsr) ∧ (s.cpsr.m ≠ .irq → t.spIrq = s.spIrq)

/-- All three link registers are unchanged. -/
def KeepsLr (s t : State) : Prop := t.lrUsr = s.lrUsr ∧ t.lrSwi = s.lrSwi ∧ t.lrIrq = s.lrIrq

/-- The link registers that are not the current mode's view are unchanged. -/
def KeepsOtherLr (s t : State) : Prop :=
  (s.cpsr.m ≠ .user → t.lrUsr = s.lrUsr) ∧ (s.cpsr.m ≠ .swi → t.lrSwi = s.lrSwi) ∧
    (s.cpsr.m ≠ .irq → t.lrIrq = s.lrIrq)

/-- Both saved status registers are unchanged. -/
def KeepsSpsr (s t : State) : Prop := t.spsrSwi = s.spsrSwi ∧ t.spsrIrq = s.spsrIrq

/-- The devices' state, and whether they may act before the next instruction, are unchanged. -/
def KeepsDevices (s t : State) : Prop := t.devState = s.devState ∧ t.boundary = s.boundary

/-- The interrupt flag and the mode are unchanged. -/
def KeepsControl (s t : State) : Prop := t.cpsr.i = s.cpsr.i ∧ t.cpsr.m = s.cpsr.m

/-- An instruction of Formats 1 to 4 touches nothing but some registers and the condition codes: `pc`, memory, the
stack pointers, the link registers, the saved status, `I`, the mode and the devices stay. -/
def DataFrame (ds : List Reg) (s t : State) : Prop :=
  KeepsRegsBut ds s t ∧ KeepsMemory s t ∧ KeepsSp s t ∧ KeepsLr s t ∧ KeepsSpsr s t ∧ KeepsControl s t ∧
    KeepsDevices s t ∧ t.pc = s.pc

/-- A load touches nothing but some registers: memory, `CPSR` whole, `pc` and everything else stay. -/
def LoadFrame (ds : List Reg) (s t : State) : Prop :=
  KeepsRegsBut ds s t ∧ KeepsMemory s t ∧ KeepsSp s t ∧ KeepsLr s t ∧ KeepsSpsr s t ∧ t.cpsr = s.cpsr ∧
    KeepsDevices s t ∧ t.pc = s.pc

/-- A store touches nothing but some registers and the `n` words at `a` and up. -/
def StoreFrame (ds : List Reg) (a : Word) (n : Nat) (s t : State) : Prop :=
  KeepsRegsBut ds s t ∧ KeepsMemoryOutside a n s t ∧ KeepsSp s t ∧ KeepsLr s t ∧ KeepsSpsr s t ∧
    t.cpsr = s.cpsr ∧ KeepsDevices s t ∧ t.pc = s.pc

/-! ## Condition codes (R11, R12, R172) -/

/-- `N` is bit 15 of the result and `Z` its zero test (R12). -/
def FlagsNZ (res : Word) (q : Cpsr) : Prop := (q.n = true ↔ res.toInt < 0) ∧ (q.z = true ↔ res.toNat = 0)

/-- The value of a carry bit. -/
def bit (c : Bool) : Nat := if c then 1 else 0

/-- The result and flags of the sum `a + b + cin` (R11, R172 items 1 and 4). -/
def IsSum (a b : Word) (cin : Bool) (res : Word) (q : Cpsr) : Prop :=
  res.toNat = (a.toNat + b.toNat + bit cin) % 65536 ∧ FlagsNZ res q ∧
    (q.c = true ↔ 65536 ≤ a.toNat + b.toNat + bit cin) ∧
    (q.v = true ↔ a.toInt + b.toInt + bit cin < -32768 ∨ 32767 < a.toInt + b.toInt + bit cin)

/-- The result and flags of the difference `a - b - borrow`: `C` = 1 exactly when nothing is borrowed (R11, R172
items 1 and 3). -/
def IsDifference (a b : Word) (borrow : Bool) (res : Word) (q : Cpsr) : Prop :=
  (res.toNat : Int) = ((a.toNat : Int) - b.toNat - bit borrow) % 65536 ∧ FlagsNZ res q ∧
    (q.c = true ↔ b.toNat + bit borrow ≤ a.toNat) ∧
    (q.v = true ↔ a.toInt - b.toInt - bit borrow < -32768 ∨ 32767 < a.toInt - b.toInt - bit borrow)

/-- The flags after an instruction that leaves `C` and `V`: `N` and `Z` from the result (R140; log entry 1). -/
def IsLogic (res : Word) (p q : Cpsr) : Prop := FlagsNZ res q ∧ q.c = p.c ∧ q.v = p.v

/-- A left shift by `n`: the product with 2^n; `C` is the last bit shifted out, kept for `n` = 0 (R141; log entries
1 and 2). -/
def IsShiftLeft (v : Word) (n : Nat) (res : Word) (p q : Cpsr) : Prop :=
  res.toNat = v.toNat * 2 ^ n % 65536 ∧ FlagsNZ res q ∧ q.v = p.v ∧
    q.c = if n = 0 then p.c else decide (v.toNat * 2 ^ n / 65536 % 2 = 1)

/-- A logical right shift by `n`: the quotient by 2^n of the unsigned value (R141; log entries 1 and 2). -/
def IsShiftRight (v : Word) (n : Nat) (res : Word) (p q : Cpsr) : Prop :=
  res.toNat = v.toNat / 2 ^ n ∧ FlagsNZ res q ∧ q.v = p.v ∧
    q.c = if n = 0 then p.c else decide (v.toNat / 2 ^ (n - 1) % 2 = 1)

/-- An arithmetic right shift by `n`: the quotient by 2^n of the signed value, rounded down (R141; log entries 1
and 2). -/
def IsShiftArith (v : Word) (n : Nat) (res : Word) (p q : Cpsr) : Prop :=
  res.toInt = v.toInt / 2 ^ n ∧ FlagsNZ res q ∧ q.v = p.v ∧
    q.c = if n = 0 then p.c else decide (v.toInt / 2 ^ (n - 1) % 2 = 1)

/-- A right rotation by `n`: bit `i` of the result is bit `i + n` modulo 16; `C` is bit 15 of the result, kept for
`n` = 0 (R141, R163; log entry 1). -/
def IsRotateRight (v : Word) (n : Nat) (res : Word) (p q : Cpsr) : Prop :=
  (∀ i, i < 16 → res.getLsbD i = v.getLsbD ((i + n) % 16)) ∧ FlagsNZ res q ∧ q.v = p.v ∧
    q.c = if n = 0 then p.c else res.getLsbD 15

/-! ## Which instructions may do what -/

/-- A word whose mode field names a mode (R31, R35). -/
def validStatus (w : Word) : Bool := w.toNat % 32 == 16 || w.toNat % 32 == 17 || w.toNat % 32 == 18

/-- When an instruction has an effect: it is no illegal row and no empty list (R122, R330), `MRS` and `MSR` are not in
User mode (R215, R216), `RSI` and `RFI` restore a status that names a mode (R35). -/
def executable (i : Instr) (s : State) : Bool :=
  i.wellFormed &&
    match i with
    | .mrs _ => s.cpsr.m != .user
    | .msr _ => s.cpsr.m != .user
    | .rsi => validStatus s.spsrSwi
    | .rfi => validStatus s.spsrIrq
    | _ => true

/-- The instructions of Formats 1 to 4, which write the condition codes (R32). -/
def setsFlags (i : Instr) : Bool :=
  match i with
  | .lslImm .. | .lsrImm .. | .asrImm .. | .addReg .. | .subReg .. | .addImm3 .. | .subImm3 .. | .movImm ..
  | .cmpImm .. | .addImm8 .. | .subImm8 .. | .and .. | .eor .. | .lslReg .. | .lsrReg .. | .asrReg .. | .adc ..
  | .sbc .. | .ror .. | .tst .. | .neg .. | .cmpReg .. | .cmn .. | .orr .. | .mul .. | .bic .. | .mvn .. => true
  | _ => false

/-- The instructions that replace `CPSR` whole: `SWI`, `RSI`, `RFI` (R32, R33, R343). -/
def replacesStatus (i : Instr) : Bool :=
  match i with
  | .swi _ | .rsi | .rfi => true
  | _ => false

/-- The instructions that write memory (R63). -/
def writesMemory (i : Instr) : Bool :=
  match i with
  | .strReg .. | .strRegPost .. | .strImm .. | .strImmPost .. | .strSp .. | .push _ | .pushLr _ | .stmia ..
  | .hwi _ => true
  | _ => false

/-- Some words at consecutive addresses, ascending, modulo 2^16 (R68). -/
def wordsAt (a : Word) (vs : List Word) : List (Word × Word) := vs.mapIdx (fun k v => (a + BitVec.ofNat 16 k, v))

/-- What a store instruction stores: addresses and words, from the rule of each (R234, R235, R241, R242, R248, R268,
R272). -/
def storesOf (i : Instr) (s : State) : List (Word × Word) :=
  match i with
  | .strReg rd rb ra => [(s.getReg rb + s.getReg ra, s.getReg rd)]
  | .strRegPost rd rb _ => [(s.getReg rb, s.getReg rd)]
  | .strImm rd rb imm5 => [(s.getReg rb + BitVec.ofNat 16 imm5.toNat, s.getReg rd)]
  | .strImmPost rd rb _ => [(s.getReg rb, s.getReg rd)]
  | .strSp rd imm8 => [(s.sp + BitVec.ofNat 16 imm8.toNat, s.getReg rd)]
  | .push rlist => wordsAt (s.sp - BitVec.ofNat 16 (listedRegs rlist).length) (s.getRegs (listedRegs rlist))
  | .pushLr rlist =>
    wordsAt (s.sp - BitVec.ofNat 16 ((listedRegs rlist).length + 1)) (s.getRegs (listedRegs rlist) ++ [s.lr])
  | .stmia rb rlist => wordsAt (s.getReg rb) (s.getRegs (listedRegs rlist))
  | _ => []

/-- The instructions that write a stack pointer (R22). -/
def writesSp (i : Instr) : Bool :=
  match i with
  | .addSpImm _ | .subSpImm _ | .push _ | .pushLr _ | .pop _ | .popPc _ | .rfi => true
  | _ => false

/-- The instructions that write a link register (R22). -/
def writesLr (i : Instr) : Bool :=
  match i with
  | .blx _ | .blImm _ | .blHi _ | .blLo _ | .swi _ => true
  | _ => false

/-- The instructions that may go anywhere but to the next word (R22). -/
def writesPc (i : Instr) : Bool :=
  match i with
  | .bx _ | .blx _ | .popPc _ | .beq _ | .bne _ | .bcs _ | .bcc _ | .bmi _ | .bpl _ | .bvs _ | .bvc _ | .bhi _
  | .bls _ | .bge _ | .blt _ | .bgt _ | .ble _ | .b _ | .blImm _ | .blLo _ | .swi _ | .rsi | .rfi => true
  | _ => false

end Sys2Proof.Claims
end

