-- ==== Sys2Proof/Certificates/Slice0/Obligations.lean ====
section
/-! DEFINITION. The statements for the provers. Each docstring names the rule or section of spec/ it formalises, and,
where a clause rests on a choice, the log entry. `exec` runs with `pc` already past the instruction (R24). -/

open Sys2Proof Sys2Proof.Machine Sys2Proof.Claims

/-- Decoding the encoding of any row with any fields gives it back (30_encoding.md section 4 (R94 to R115),
30_encoding.md section 6 (R117 to R120)). -/
def Obligations.DecodeOfEncodeIsTheInstruction : Prop :=
  ∀ i : Instr, decode (encode i) = i

/-- Encoding the decoding of a word clears its don't-care bits, and only they may differ unseen (30_encoding.md section
2 (R92, D12), 30_encoding.md section 4). That the encoder writes 0 in a don't-care bit is the spec's decision D12
(log entry 10). -/
def Obligations.DontCareBitsAreAllThatDecodingDrops : Prop :=
  ∀ w : Word, encode (decode w) = w &&& careMask (decode w) ∧
    ∀ v : Word, v &&& careMask (decode w) = w &&& careMask (decode w) → decode v = decode w

/-- Every word matches the row it decodes to, and no other row (30_encoding.md section 3 (R93), 30_encoding.md section 9
(R128)). -/
def Obligations.EveryWordBelongsToExactlyOneRow : Prop :=
  ∀ w : Word, w &&& rowMask (decode w) = rowMatch (decode w) ∧
    ∀ i : Instr, w &&& rowMask i = rowMatch i → rowMask i = rowMask (decode w) ∧ rowMatch i = rowMatch (decode w)

/-- Words written out in the spec decode to the instructions they stand for (95_test_vectors.md Part 2, 40_alu.md
section 4 (R152), 42_load_store.md section 2 (R231), 30_encoding.md section 6 (R117), 42_load_store.md section 4
(R239)). -/
def Obligations.SampleWordsDecodeAsTheSpecWritesThem : Prop :=
  decode 0x0108#16 = .lslImm .r0 .r1 4#5 ∧ decode 0x1A88#16 = .subReg .r0 .r1 .r2 ∧
    decode 0x2B11#16 = .cmpImm .r3 17#8 ∧ decode 0x41C8#16 = .ror .r0 .r1 ∧ decode 0x467B#16 = .blx .r3 ∧
    decode 0x46A5#16 = .hwq .r5 ∧ decode 0x47B9#16 = .msr .r1 ∧ decode 0x4A03#16 = .ldrPc .r2 3#8 ∧
    decode 0x5488#16 = .strRegPost .r0 .r1 .r2 ∧ decode 0x70C8#16 = .ldrImm .r0 .r1 3#5 ∧
    decode 0x9802#16 = .ldrSp .r0 2#8 ∧ decode 0xA204#16 = .addPc .r2 4#8 ∧ decode 0xB0FF#16 = .subSpImm 127#7 ∧
    decode 0xB509#16 = .pushLr 0x09#8 ∧ decode 0xC925#16 = .ldmia .r1 0x25#8 ∧ decode 0xDC02#16 = .bgt 2#8 ∧
    decode 0xDF42#16 = .swi 0x42#8 ∧ decode 0xE7FC#16 = .b 0x7FC#11 ∧ decode 0xF712#16 = .blHi 0x12#8 ∧
    decode 0xF923#16 = .blImm 0x123#11 ∧ decode 0x53FF#16 = .unusedF10

/-- A step at which no interrupt is taken runs the instruction at pc with pc advanced (10_state.md section 3 (R24),
60_exceptions.md section 2 (R334), 20_memory.md section 7 (R73)). That the devices do not act before the very first
instruction is the model's choice (log entry 20). -/
def Obligations.StepRunsTheDecodedInstruction : Prop :=
  (∀ s : State, step s = stepWith s.nextTick s) ∧
    (∀ (s : State) (d : DeviceTick) (i : Instr), s.takenInterrupt d = none → decode ((s.afterTick d).readMem s.pc) = i →
      stepWith d s = endOutcome (exec i { s.afterTick d with pc := s.pc + 1#16 })) ∧
    ∀ (s : State) (i : Instr), s.boundary = false → decode (s.readMem s.pc) = i →
      step s = endOutcome (exec i { s with pc := s.pc + 1#16 })

/-- While I = 0 a step runs the instruction at pc whatever message is offered (60_exceptions.md section 2 (R334),
10_state.md section 5 (R33)). -/
def Obligations.DisabledInterruptsAreNeverTaken : Prop :=
  ∀ s : State, s.cpsr.i = false →
    (∀ d : DeviceTick, stepWith d s =
      endOutcome (exec (decode ((s.afterTick d).readMem s.pc)) { s.afterTick d with pc := s.pc + 1#16 })) ∧
    step s = endOutcome (exec (decode ((s.afterTick s.nextTick).readMem s.pc))
      { s.afterTick s.nextTick with pc := s.pc + 1#16 })

/-- With I = 1 an offered message enters IRQ mode as the spec reconstructs it, and the offer is consumed
(60_exceptions.md section 3 (R335, D17), 60_exceptions.md section 2 (R334)). IRQ entry is the spec's own decision
D17 (log entry 15): it is no rule of the source. That the devices learn whether an offer was taken is the model's
form of 'the offer is consumed' (log entry 20). -/
def Obligations.EnabledInterruptIsTakenAtTheBoundary : Prop :=
  ∀ (s : State) (d : DeviceTick) (o : IrqOffer), s.cpsr.i = true → d.offer = some o →
    ∃ t, stepWith d s = .next t ∧ t.spsrIrq = s.cpsr.toWord ∧ t.lrIrq = s.pc ∧ t.cpsr.toWord = 0x0012#16 ∧
      t.spIrq = s.spIrq - 1#16 ∧ t.readMem t.spIrq = s.getReg .r0 ∧
      (∀ a, a ≠ t.spIrq → t.readMem a = (s.afterTick d).readMem a) ∧ t.getReg .r0 = o.message ∧
      KeepsRegsBut [.r0] s t ∧ t.pc = Config.irqVector ∧ t.spUsr = s.spUsr ∧ t.lrUsr = s.lrUsr ∧ t.lrSwi = s.lrSwi ∧
      t.spsrSwi = s.spsrSwi ∧ t.devState = o.taken ∧ t.boundary = true

/-- Between instructions the devices change only the words they write and their own state (20_memory.md section 7 (R73,
D24), 41_bx_hw_cpsr.md section 2 (R203, D27)). The footprint is the spec's decisions D24 and D27 (log entries 18,
20). -/
def Obligations.DevicesBetweenInstructionsTouchOnlyMemoryAndThemselves : Prop :=
  ∀ (s : State) (d : DeviceTick), (s.afterTick d).regs = s.regs ∧ (s.afterTick d).pc = s.pc ∧
    (s.afterTick d).cpsr = s.cpsr ∧ KeepsSp s (s.afterTick d) ∧ KeepsLr s (s.afterTick d) ∧
    KeepsSpsr s (s.afterTick d) ∧ (s.afterTick d).devState = d.devState ∧
    ∀ a, (∀ e ∈ d.writes, e.1 ≠ a) → (s.afterTick d).readMem a = s.readMem a

/-- Tick is a function of memory and device state; with NDEVICES = 0 the processor is the only agent (20_memory.md
section 7 (R73, D24, D27), 41_bx_hw_cpsr.md section 2 (R203), 60_exceptions.md section 2 (R333, R334)). With
NDEVICES = 0 the spec's decisions D24 and D27; that the devices do not act before the very first instruction is the
model's choice (log entry 20). -/
def Obligations.DevicesActOnlyWhereConnectedAndBetweenInstructions : Prop :=
  ∀ s : State,
    (step s = if s.boundary = true ∧ Config.deviceCount ≠ 0#16 then stepWith (Config.tick s.mem s.devState) s
      else endOutcome (exec (decode (s.readMem s.pc)) { s with pc := s.pc + 1#16, boundary := false })) ∧
    (∀ t, step s = .next t → t.boundary = true) ∧ ∀ (i : Instr) (t : State), exec i s = .next t → t.boundary = s.boundary

/-- After reset pc is 0, CPSR is $0010 and no interrupt is pending (10_state.md section 8 (R39, D23)). The reset values
are the spec's own decision D23 (log entry 7); the source gives none. That the devices do not act before the first
instruction is the model's choice (log entry 20). -/
def Obligations.ResetStateIsAsTheSpecDecides : Prop :=
  State.reset.pc = 0x0000#16 ∧ State.reset.cpsr.toWord = 0x0010#16 ∧ State.reset.cpsr.m = .user ∧
    State.reset.boundary = false ∧ State.reset.nextTick.offer = none ∧ State.reset.nextTick.writes = []

/-- ADD of registers, a 3-bit literal or an 8-bit immediate: sum, four flags, frame (R146, R147, R153). -/
def Obligations.AdditionsAddAndSetAllFlags : Prop :=
  ∀ s : State,
    (∀ rd ra rb : Reg, ∃ t, exec (.addReg rd ra rb) s = .next t ∧
      IsSum (s.getReg ra) (s.getReg rb) false (t.getReg rd) t.cpsr ∧ DataFrame [rd] s t) ∧
    (∀ (rd ra : Reg) (imm3 : BitVec 3), ∃ t, exec (.addImm3 rd ra imm3) s = .next t ∧
      IsSum (s.getReg ra) (BitVec.ofNat 16 imm3.toNat) false (t.getReg rd) t.cpsr ∧ DataFrame [rd] s t) ∧
    (∀ (rd : Reg) (imm8 : BitVec 8), ∃ t, exec (.addImm8 rd imm8) s = .next t ∧
      IsSum (s.getReg rd) (BitVec.ofNat 16 imm8.toNat) false (t.getReg rd) t.cpsr ∧ DataFrame [rd] s t)

/-- SUB of registers, a 3-bit literal or an 8-bit immediate: difference, four flags, frame (R148, R149, R154). -/
def Obligations.SubtractionsSubtractAndSetAllFlags : Prop :=
  ∀ s : State,
    (∀ rd ra rb : Reg, ∃ t, exec (.subReg rd ra rb) s = .next t ∧
      IsDifference (s.getReg ra) (s.getReg rb) false (t.getReg rd) t.cpsr ∧ DataFrame [rd] s t) ∧
    (∀ (rd ra : Reg) (imm3 : BitVec 3), ∃ t, exec (.subImm3 rd ra imm3) s = .next t ∧
      IsDifference (s.getReg ra) (BitVec.ofNat 16 imm3.toNat) false (t.getReg rd) t.cpsr ∧ DataFrame [rd] s t) ∧
    (∀ (rd : Reg) (imm8 : BitVec 8), ∃ t, exec (.subImm8 rd imm8) s = .next t ∧
      IsDifference (s.getReg rd) (BitVec.ofNat 16 imm8.toNat) false (t.getReg rd) t.cpsr ∧ DataFrame [rd] s t)

/-- CMP and CMN set the four flags of a difference or sum and write no register (R152, R166, R167). -/
def Obligations.ComparesSetFlagsAndWriteNoRegister : Prop :=
  ∀ s : State,
    (∀ (rd : Reg) (imm8 : BitVec 8), ∃ t res, exec (.cmpImm rd imm8) s = .next t ∧
      IsDifference (s.getReg rd) (BitVec.ofNat 16 imm8.toNat) false res t.cpsr ∧ DataFrame [] s t) ∧
    (∀ rd rs : Reg, ∃ t res, exec (.cmpReg rd rs) s = .next t ∧
      IsDifference (s.getReg rd) (s.getReg rs) false res t.cpsr ∧ DataFrame [] s t) ∧
    (∀ rd rs : Reg, ∃ t res, exec (.cmn rd rs) s = .next t ∧
      IsSum (s.getReg rd) (s.getReg rs) false res t.cpsr ∧ DataFrame [] s t)

/-- ADC adds the C bit, SBC subtracts its complement; all four flags written (R161, R162). -/
def Obligations.CarryArithmeticUsesTheCarryFlag : Prop :=
  ∀ (s : State) (rd rs : Reg),
    (∃ t, exec (.adc rd rs) s = .next t ∧
      IsSum (s.getReg rd) (s.getReg rs) s.cpsr.c (t.getReg rd) t.cpsr ∧ DataFrame [rd] s t) ∧
    (∃ t, exec (.sbc rd rs) s = .next t ∧
      IsDifference (s.getReg rd) (s.getReg rs) (!s.cpsr.c) (t.getReg rd) t.cpsr ∧ DataFrame [rd] s t)

/-- NEG gives 0 - Rs with the flags of that subtraction (40_alu.md section 5 (R165, D7)). The flags of NEG are the
spec's decision D7 (log entry 26). -/
def Obligations.NegateIsSubtractionFromZero : Prop :=
  ∀ (s : State) (rd rs : Reg), ∃ t, exec (.neg rd rs) s = .next t ∧
    IsDifference 0#16 (s.getReg rs) false (t.getReg rd) t.cpsr ∧ DataFrame [rd] s t

/-- AND, EOR, ORR, BIC, MVN, TST, MOV: bitwise result, N and Z of it, C and V kept (40_alu.md section 5 (R156 to R171,
D7), 40_alu.md section 4 (R151, D7)). That C and V stay is the spec's decision D7, CV_POLICY = thumb (log entry 1);
the source says only that the condition codes are set. -/
def Obligations.LogicalOperationsKeepCarryAndOverflow : Prop :=
  ∀ (s : State) (rd rs : Reg) (imm8 : BitVec 8),
    (∃ t, exec (.and rd rs) s = .next t ∧ DataFrame [rd] s t ∧ IsLogic (t.getReg rd) s.cpsr t.cpsr ∧
      ∀ k, k < 16 → (t.getReg rd).getLsbD k = ((s.getReg rd).getLsbD k && (s.getReg rs).getLsbD k)) ∧
    (∃ t, exec (.eor rd rs) s = .next t ∧ DataFrame [rd] s t ∧ IsLogic (t.getReg rd) s.cpsr t.cpsr ∧
      ∀ k, k < 16 → (t.getReg rd).getLsbD k = ((s.getReg rd).getLsbD k != (s.getReg rs).getLsbD k)) ∧
    (∃ t, exec (.orr rd rs) s = .next t ∧ DataFrame [rd] s t ∧ IsLogic (t.getReg rd) s.cpsr t.cpsr ∧
      ∀ k, k < 16 → (t.getReg rd).getLsbD k = ((s.getReg rd).getLsbD k || (s.getReg rs).getLsbD k)) ∧
    (∃ t, exec (.bic rd rs) s = .next t ∧ DataFrame [rd] s t ∧ IsLogic (t.getReg rd) s.cpsr t.cpsr ∧
      ∀ k, k < 16 → (t.getReg rd).getLsbD k = ((s.getReg rd).getLsbD k && !(s.getReg rs).getLsbD k)) ∧
    (∃ t, exec (.mvn rd rs) s = .next t ∧ DataFrame [rd] s t ∧ IsLogic (t.getReg rd) s.cpsr t.cpsr ∧
      ∀ k, k < 16 → (t.getReg rd).getLsbD k = !(s.getReg rs).getLsbD k) ∧
    (∃ t, exec (.tst rd rs) s = .next t ∧ DataFrame [] s t ∧
      IsLogic (s.getReg rd &&& s.getReg rs) s.cpsr t.cpsr) ∧
    (∃ t, exec (.movImm rd imm8) s = .next t ∧ DataFrame [rd] s t ∧ (t.getReg rd).toNat = imm8.toNat ∧
      IsLogic (t.getReg rd) s.cpsr t.cpsr)

/-- MUL gives the low 16 bits of the product, for signed and unsigned operands alike (40_alu.md section 5 (R169, D9,
D7)). The truncation is the spec's decision D9 (log entry 26), C and V kept its decision D7 (log entry 1). -/
def Obligations.MultiplyKeepsTheLowHalf : Prop :=
  ∀ (s : State) (rd rs : Reg), ∃ t, exec (.mul rd rs) s = .next t ∧
    (t.getReg rd).toNat = (s.getReg rd).toNat * (s.getReg rs).toNat % 65536 ∧
    ((t.getReg rd).toNat : Int) = (s.getReg rd).toInt * (s.getReg rs).toInt % 65536 ∧
    IsLogic (t.getReg rd) s.cpsr t.cpsr ∧ DataFrame [rd] s t

/-- LSL, LSR, ASR by an immediate multiply or divide by a power of two; C is the last bit out (40_alu.md section 2 (R142
to R144, D7, D8), 40_alu.md section 1 (R141)). C from the shifter is the spec's decision D7 (log entry 1), the
literal amounts its decision D8 (log entry 2). -/
def Obligations.ImmediateShiftsAreArithmetic : Prop :=
  ∀ (s : State) (rd rs : Reg) (n : BitVec 5),
    (∃ t, exec (.lslImm rd rs n) s = .next t ∧ DataFrame [rd] s t ∧
      IsShiftLeft (s.getReg rs) n.toNat (t.getReg rd) s.cpsr t.cpsr) ∧
    (∃ t, exec (.lsrImm rd rs n) s = .next t ∧ DataFrame [rd] s t ∧
      IsShiftRight (s.getReg rs) n.toNat (t.getReg rd) s.cpsr t.cpsr) ∧
    (∃ t, exec (.asrImm rd rs n) s = .next t ∧ DataFrame [rd] s t ∧
      IsShiftArith (s.getReg rs) n.toNat (t.getReg rd) s.cpsr t.cpsr)

/-- LSL, LSR, ASR, ROR by a register take its whole 16-bit value as the amount (40_alu.md section 5 (R158 to R160, R163,
D7, D8), 40_alu.md section 1 (R141)). C from the shifter is the spec's decision D7 (log entry 1), the whole-register
amount its decision D8 (log entry 2). -/
def Obligations.RegisterShiftsUseTheWholeAmount : Prop :=
  ∀ (s : State) (rd rs : Reg),
    (∃ t, exec (.lslReg rd rs) s = .next t ∧ DataFrame [rd] s t ∧
      IsShiftLeft (s.getReg rd) (s.getReg rs).toNat (t.getReg rd) s.cpsr t.cpsr) ∧
    (∃ t, exec (.lsrReg rd rs) s = .next t ∧ DataFrame [rd] s t ∧
      IsShiftRight (s.getReg rd) (s.getReg rs).toNat (t.getReg rd) s.cpsr t.cpsr) ∧
    (∃ t, exec (.asrReg rd rs) s = .next t ∧ DataFrame [rd] s t ∧
      IsShiftArith (s.getReg rd) (s.getReg rs).toNat (t.getReg rd) s.cpsr t.cpsr) ∧
    (∃ t, exec (.ror rd rs) s = .next t ∧ DataFrame [rd] s t ∧
      IsRotateRight (s.getReg rd) (s.getReg rs).toNat (t.getReg rd) s.cpsr t.cpsr)

/-- After CMP a, b each condition holds exactly when its relation between a and b holds (40_alu.md section 6 (R172 item
3), 44_branch_swi_bl.md section 1 (R291)). -/
def Obligations.BranchesAfterCompareDecideTheRelation : Prop :=
  ∀ (s : State) (rd rs : Reg), ∃ t, exec (.cmpReg rd rs) s = .next t ∧
    (condHolds .eq t.cpsr = true ↔ s.getReg rd = s.getReg rs) ∧
    (condHolds .ne t.cpsr = true ↔ s.getReg rd ≠ s.getReg rs) ∧
    (condHolds .cs t.cpsr = true ↔ (s.getReg rs).toNat ≤ (s.getReg rd).toNat) ∧
    (condHolds .cc t.cpsr = true ↔ (s.getReg rd).toNat < (s.getReg rs).toNat) ∧
    (condHolds .mi t.cpsr = true ↔ 32768 ≤ (((s.getReg rd).toNat : Int) - (s.getReg rs).toNat) % 65536) ∧
    (condHolds .pl t.cpsr = true ↔ (((s.getReg rd).toNat : Int) - (s.getReg rs).toNat) % 65536 < 32768) ∧
    (condHolds .vs t.cpsr = true ↔
      (s.getReg rd).toInt - (s.getReg rs).toInt < -32768 ∨ 32767 < (s.getReg rd).toInt - (s.getReg rs).toInt) ∧
    (condHolds .vc t.cpsr = true ↔
      -32768 ≤ (s.getReg rd).toInt - (s.getReg rs).toInt ∧ (s.getReg rd).toInt - (s.getReg rs).toInt ≤ 32767) ∧
    (condHolds .hi t.cpsr = true ↔ (s.getReg rs).toNat < (s.getReg rd).toNat) ∧
    (condHolds .ls t.cpsr = true ↔ (s.getReg rd).toNat ≤ (s.getReg rs).toNat) ∧
    (condHolds .ge t.cpsr = true ↔ (s.getReg rs).toInt ≤ (s.getReg rd).toInt) ∧
    (condHolds .lt t.cpsr = true ↔ (s.getReg rd).toInt < (s.getReg rs).toInt) ∧
    (condHolds .gt t.cpsr = true ↔ (s.getReg rs).toInt < (s.getReg rd).toInt) ∧
    (condHolds .le t.cpsr = true ↔ (s.getReg rd).toInt ≤ (s.getReg rs).toInt)

/-- ADD then ADC add, and SUB then SBC subtract, two 32-bit numbers (40_alu.md section 6 (R172 item 5)). -/
def Obligations.DoubleWordAddAndSubtract : Prop :=
  ∀ (s : State) (rd ra rb rh rs : Reg), rd ≠ rh → rd ≠ rs →
    (∃ t u, exec (.addReg rd ra rb) s = .next t ∧ exec (.adc rh rs) t = .next u ∧
      (u.getReg rh).toNat * 65536 + (u.getReg rd).toNat =
        ((s.getReg rh).toNat * 65536 + (s.getReg ra).toNat + (s.getReg rs).toNat * 65536 + (s.getReg rb).toNat) %
          4294967296) ∧
    (∃ t u, exec (.subReg rd ra rb) s = .next t ∧ exec (.sbc rh rs) t = .next u ∧
      (((u.getReg rh).toNat * 65536 + (u.getReg rd).toNat : Nat) : Int) =
        (((s.getReg rh).toNat * 65536 + (s.getReg ra).toNat : Nat) -
          ((s.getReg rs).toNat * 65536 + (s.getReg rb).toNat : Nat) : Int) % 4294967296)

/-- Each of the fourteen conditional branches goes to pc + offset exactly when its condition holds (R291, R292). -/
def Obligations.ConditionalBranchesFollowTheConditionTable : Prop :=
  ∀ (imm8 : BitVec 8) (s : State),
    exec (.beq imm8) s =
      .next { s with pc := if s.cpsr.z = true then s.pc + BitVec.ofInt 16 imm8.toInt else s.pc } ∧
    exec (.bne imm8) s =
      .next { s with pc := if s.cpsr.z = false then s.pc + BitVec.ofInt 16 imm8.toInt else s.pc } ∧
    exec (.bcs imm8) s =
      .next { s with pc := if s.cpsr.c = true then s.pc + BitVec.ofInt 16 imm8.toInt else s.pc } ∧
    exec (.bcc imm8) s =
      .next { s with pc := if s.cpsr.c = false then s.pc + BitVec.ofInt 16 imm8.toInt else s.pc } ∧
    exec (.bmi imm8) s =
      .next { s with pc := if s.cpsr.n = true then s.pc + BitVec.ofInt 16 imm8.toInt else s.pc } ∧
    exec (.bpl imm8) s =
      .next { s with pc := if s.cpsr.n = false then s.pc + BitVec.ofInt 16 imm8.toInt else s.pc } ∧
    exec (.bvs imm8) s =
      .next { s with pc := if s.cpsr.v = true then s.pc + BitVec.ofInt 16 imm8.toInt else s.pc } ∧
    exec (.bvc imm8) s =
      .next { s with pc := if s.cpsr.v = false then s.pc + BitVec.ofInt 16 imm8.toInt else s.pc } ∧
    exec (.bhi imm8) s =
      .next { s with pc := if s.cpsr.c = true ∧ s.cpsr.z = false then s.pc + BitVec.ofInt 16 imm8.toInt else s.pc } ∧
    exec (.bls imm8) s =
      .next { s with pc := if s.cpsr.c = false ∨ s.cpsr.z = true then s.pc + BitVec.ofInt 16 imm8.toInt else s.pc } ∧
    exec (.bge imm8) s =
      .next { s with pc := if s.cpsr.n = s.cpsr.v then s.pc + BitVec.ofInt 16 imm8.toInt else s.pc } ∧
    exec (.blt imm8) s =
      .next { s with pc := if s.cpsr.n ≠ s.cpsr.v then s.pc + BitVec.ofInt 16 imm8.toInt else s.pc } ∧
    exec (.bgt imm8) s =
      .next { s with pc := if s.cpsr.z = false ∧ s.cpsr.n = s.cpsr.v then s.pc + BitVec.ofInt 16 imm8.toInt else s.pc } ∧
    exec (.ble imm8) s =
      .next { s with pc := if s.cpsr.z = true ∨ s.cpsr.n ≠ s.cpsr.v then s.pc + BitVec.ofInt 16 imm8.toInt else s.pc }

/-- BX goes to the register's value, B to pc plus the signed 11-bit offset (41_bx_hw_cpsr.md section 1 (R200, R201,
D30), 44_branch_swi_bl.md section 3 (R299)). That BX copies all 16 bits of Ra is the spec's decision D30 (log entry
27). -/
def Obligations.BranchesToRegisterAndOffset : Prop :=
  ∀ s : State, (∀ ra : Reg, exec (.bx ra) s = .next { s with pc := s.getReg ra }) ∧
    ∀ imm11 : BitVec 11, exec (.b imm11) s = .next { s with pc := s.pc + BitVec.ofInt 16 imm11.toInt }

/-- BLX, BL and the BL halves: target, link register of the current mode, frame (44_branch_swi_bl.md sections 4 and 5
(R301, R303, R304), 41_bx_hw_cpsr.md section 1 (R202), 10_state.md section 4 (R28, D16)). Which physical register LR
is in IRQ mode is the spec's decision D16 (log entry 14), that BLX copies all 16 bits of Ra its decision D30 (log
entry 27). -/
def Obligations.LinkingBranchesWriteTheCurrentLinkRegister : Prop :=
  ∀ (s : State) (ra : Reg) (imm11 : BitVec 11) (imm8 : BitVec 8),
    (∃ t, exec (.blx ra) s = .next t ∧ t.lr = s.pc ∧ t.pc = s.getReg ra ∧ KeepsOtherLr s t ∧
      LoadFrame [] { s with pc := t.pc, lrUsr := t.lrUsr, lrSwi := t.lrSwi, lrIrq := t.lrIrq } t) ∧
    (∃ t, exec (.blImm imm11) s = .next t ∧ t.lr = s.pc ∧ t.pc.toNat = imm11.toNat ∧ KeepsOtherLr s t ∧
      LoadFrame [] { s with pc := t.pc, lrUsr := t.lrUsr, lrSwi := t.lrSwi, lrIrq := t.lrIrq } t) ∧
    (∃ t, exec (.blHi imm8) s = .next t ∧ t.lr.toNat = imm8.toNat * 256 ∧ t.pc = s.pc ∧ KeepsOtherLr s t ∧
      LoadFrame [] { s with lrUsr := t.lrUsr, lrSwi := t.lrSwi, lrIrq := t.lrIrq } t) ∧
    (∃ t, exec (.blLo imm8) s = .next t ∧ t.lr = s.pc ∧
      (∀ k, k < 16 → t.pc.getLsbD k = (s.lr.getLsbD k || imm8.getLsbD k)) ∧ KeepsOtherLr s t ∧
      LoadFrame [] { s with pc := t.pc, lrUsr := t.lrUsr, lrSwi := t.lrSwi, lrIrq := t.lrIrq } t)

/-- The high half then the low half of BL branch to the full address and link past the pair (44_branch_swi_bl.md section
5 (R305)). -/
def Obligations.LongBranchPairReachesItsTarget : Prop :=
  ∀ (s : State) (hi lo : BitVec 8), ∃ t u, exec (.blHi hi) s = .next t ∧ exec (.blLo lo) t.advancePc = .next u ∧
    u.pc.toNat = hi.toNat * 256 + lo.toNat ∧ u.lr = s.pc + 1#16 ∧ u.cpsr = s.cpsr ∧ u.regs = s.regs ∧ KeepsMemory s u

/-- Two memories in canonical form that give the same word at every address are the same list (20_memory.md section 2
(R65)). The canonical form is the model's representation (log entry 5). -/
def Obligations.CanonicalMemoriesThatReadAlikeAreEqual : Prop :=
  ∀ m m' : Memory, m.wf = true → m'.wf = true → (∀ a : Word, m.read a = m'.read a) → m = m'

/-- Every step keeps the memory in the model's canonical form, from any state (20_memory.md section 1 (R60, R62),
20_memory.md section 2 (R65)). The canonical form is the model's representation of the spec's 65536 words (log entry
5), no rule of the spec. -/
def Obligations.EveryStepKeepsMemoryCanonical : Prop :=
  ∀ s t : State, s.mem.wf = true → step s = .next t → t.mem.wf = true

/-- The memory after reset is in the model's canonical form (10_state.md section 8 (R39)). The canonical form is the
model's representation (log entry 5), and that nothing is listed after reset its choice (log entries 6, 7): R39
leaves memory unspecified. -/
def Obligations.ResetMemoryIsCanonical : Prop :=
  State.reset.mem.wf = true

/-- LDR from PC, register, immediate and SP offsets: Rd receives the word at the address (R231, R236, R243, R249). -/
def Obligations.LoadsReadTheAddressedWord : Prop :=
  ∀ (s : State) (rd rb ra : Reg) (imm5 : BitVec 5) (imm8 : BitVec 8),
    (∃ t, exec (.ldrPc rd imm8) s = .next t ∧ LoadFrame [rd] s t ∧
      t.getReg rd = s.readMem (s.pc + BitVec.ofNat 16 imm8.toNat)) ∧
    (∃ t, exec (.ldrReg rd rb ra) s = .next t ∧ LoadFrame [rd] s t ∧
      t.getReg rd = s.readMem (s.getReg rb + s.getReg ra)) ∧
    (∃ t, exec (.ldrImm rd rb imm5) s = .next t ∧ LoadFrame [rd] s t ∧
      t.getReg rd = s.readMem (s.getReg rb + BitVec.ofNat 16 imm5.toNat)) ∧
    (∃ t, exec (.ldrSp rd imm8) s = .next t ∧ LoadFrame [rd] s t ∧
      t.getReg rd = s.readMem (s.sp + BitVec.ofNat 16 imm8.toNat))

/-- STR at register, immediate and SP offsets: the addressed word becomes Rd and nothing else changes (R234, R241,
R248). -/
def Obligations.StoresWriteTheAddressedWord : Prop :=
  ∀ (s : State) (rd rb ra : Reg) (imm5 : BitVec 5) (imm8 : BitVec 8),
    (∃ t, exec (.strReg rd rb ra) s = .next t ∧ StoreFrame [] (s.getReg rb + s.getReg ra) 1 s t ∧
      t.readMem (s.getReg rb + s.getReg ra) = s.getReg rd) ∧
    (∃ t, exec (.strImm rd rb imm5) s = .next t ∧
      StoreFrame [] (s.getReg rb + BitVec.ofNat 16 imm5.toNat) 1 s t ∧
      t.readMem (s.getReg rb + BitVec.ofNat 16 imm5.toNat) = s.getReg rd) ∧
    (∃ t, exec (.strSp rd imm8) s = .next t ∧ StoreFrame [] (s.sp + BitVec.ofNat 16 imm8.toNat) 1 s t ∧
      t.readMem (s.sp + BitVec.ofNat 16 imm8.toNat) = s.getReg rd)

/-- LDR with post-increment: word at the old base, base plus old offset, the writeback wins (42_load_store.md section 3
(R237, R238, D14), 42_load_store.md section 5 (R244)). That the writeback wins where Rd = Rb is the spec's decision
D14 (log entry 12). -/
def Obligations.PostIncrementLoadsWriteTheBaseLast : Prop :=
  ∀ (s : State) (rd rb ra : Reg) (imm5 : BitVec 5),
    (∃ t, exec (.ldrRegPost rd rb ra) s = .next t ∧ LoadFrame [rd, rb] s t ∧
      t.getReg rb = s.getReg rb + s.getReg ra ∧ (rd ≠ rb → t.getReg rd = s.readMem (s.getReg rb))) ∧
    (∃ t, exec (.ldrImmPost rd rb imm5) s = .next t ∧ LoadFrame [rd, rb] s t ∧
      t.getReg rb = s.getReg rb + BitVec.ofNat 16 imm5.toNat ∧ (rd ≠ rb → t.getReg rd = s.readMem (s.getReg rb)))

/-- STR with post-increment: the old Rd at the old base, then base plus old offset (42_load_store.md section 3 (R235,
R238, D14), 42_load_store.md section 5 (R242)). That every register is read before any is written is the spec's
decision D14 (log entry 12). -/
def Obligations.PostIncrementStoresStoreTheOldValue : Prop :=
  ∀ (s : State) (rd rb ra : Reg) (imm5 : BitVec 5),
    (∃ t, exec (.strRegPost rd rb ra) s = .next t ∧ StoreFrame [rb] (s.getReg rb) 1 s t ∧
      t.readMem (s.getReg rb) = s.getReg rd ∧ t.getReg rb = s.getReg rb + s.getReg ra) ∧
    (∃ t, exec (.strImmPost rd rb imm5) s = .next t ∧ StoreFrame [rb] (s.getReg rb) 1 s t ∧
      t.readMem (s.getReg rb) = s.getReg rd ∧ t.getReg rb = s.getReg rb + BitVec.ofNat 16 imm5.toNat)

/-- A word that any store instruction stores at the next instruction's address is the next instruction (20_memory.md
section 8 (R76, D25), 20_memory.md section 1 (R63)). Coherence of fetch is the spec's decision D25, PREFETCH_DEPTH =
0 (log entry 22). What each instruction stores is Claims.storesOf, written from the rules; what HWI lets a device
write is that device's (log entry 18). -/
def Obligations.StoreIsSeenByTheNextFetch : Prop :=
  ∀ (i : Instr) (s : State) (w : Word), (s.pc, w) ∈ storesOf i s →
    ∃ t, exec i s = .next t ∧ ∀ d : DeviceTick, t.takenInterrupt d = none → (∀ e ∈ d.writes, e.1 ≠ s.pc) →
      stepWith d t = endOutcome (exec (decode w) { t.afterTick d with pc := s.pc + 1#16 })

/-- ADD Rd, PC and ADD Rd, SP put the address into Rd and change nothing else (R261, R262). -/
def Obligations.AddressesFormedFromPcAndSp : Prop :=
  ∀ (s : State) (rd : Reg) (imm8 : BitVec 8),
    (∃ t, exec (.addPc rd imm8) s = .next t ∧ LoadFrame [rd] s t ∧ t.getReg rd = s.pc + BitVec.ofNat 16 imm8.toNat) ∧
    (∃ t, exec (.addSp rd imm8) s = .next t ∧ LoadFrame [rd] s t ∧ t.getReg rd = s.sp + BitVec.ofNat 16 imm8.toNat)

/-- ADD SP and SUB SP change the current mode's stack pointer and nothing else (R264, R265). -/
def Obligations.StackPointerAdjustments : Prop :=
  ∀ (s : State) (imm7 : BitVec 7),
    (∃ t, exec (.addSpImm imm7) s = .next t ∧ t.sp = s.sp + BitVec.ofNat 16 imm7.toNat ∧ KeepsOtherSp s t ∧
      LoadFrame [] { s with spUsr := t.spUsr, spIrq := t.spIrq } t) ∧
    (∃ t, exec (.subSpImm imm7) s = .next t ∧ t.sp = s.sp - BitVec.ofNat 16 imm7.toNat ∧ KeepsOtherSp s t ∧
      LoadFrame [] { s with spUsr := t.spUsr, spIrq := t.spIrq } t)

/-- A register list holds r<i> exactly when bit i is 1, in ascending order (43_address_stack_multiple.md section 3
(R267), 30_encoding.md section 4 (R109, R110)). -/
def Obligations.RegisterListsNameTheirBitsInAscendingOrder : Prop :=
  ∀ rlist : BitVec 8, (∀ r : Reg, r ∈ listedRegs rlist ↔ rlist.getLsbD r.num.toNat = true) ∧
    (listedRegs rlist).Pairwise (fun a b => a.num.toNat < b.num.toNat)

/-- PUSH with and without LR: SP falls by n and the words stand at the new SP in ascending order
(43_address_stack_multiple.md section 3 (R266 to R268, R270, D13), 20_memory.md section 9 (R78)). That the empty
list of PUSH does nothing is the spec's decision D13 (log entry 11). -/
def Obligations.PushStoresTheListBelowTheStackPointer : Prop :=
  ∀ (s : State) (rlist : BitVec 8),
    (∃ t, exec (.push rlist) s = .next t ∧ t.sp = s.sp - BitVec.ofNat 16 (s.getRegs (listedRegs rlist)).length ∧
      (∀ (k : Nat) (h : k < (s.getRegs (listedRegs rlist)).length),
        t.readMem (t.sp + BitVec.ofNat 16 k) = (s.getRegs (listedRegs rlist))[k]) ∧
      KeepsOtherSp s t ∧
      StoreFrame [] (s.sp - BitVec.ofNat 16 (s.getRegs (listedRegs rlist)).length) (s.getRegs (listedRegs rlist)).length
        { s with spUsr := t.spUsr, spIrq := t.spIrq } t) ∧
    (∃ t, exec (.pushLr rlist) s = .next t ∧ t.sp = s.sp - BitVec.ofNat 16 (s.getRegs (listedRegs rlist) ++ [s.lr]).length ∧
      (∀ (k : Nat) (h : k < (s.getRegs (listedRegs rlist) ++ [s.lr]).length),
        t.readMem (t.sp + BitVec.ofNat 16 k) = (s.getRegs (listedRegs rlist) ++ [s.lr])[k]) ∧
      KeepsOtherSp s t ∧
      StoreFrame [] (s.sp - BitVec.ofNat 16 (s.getRegs (listedRegs rlist) ++ [s.lr]).length) (s.getRegs (listedRegs rlist) ++ [s.lr]).length
        { s with spUsr := t.spUsr, spIrq := t.spIrq } t)

/-- POP with and without PC: the listed registers receive the words at SP and up, SP rises by n
(43_address_stack_multiple.md section 3 (R266, R267, R269, R270, D13), 20_memory.md section 9 (R78)). That the empty
list of POP does nothing is the spec's decision D13 (log entry 11), that POP with PC copies all 16 bits its decision
D30 (log entry 27). -/
def Obligations.PopLoadsTheListFromTheStackPointer : Prop :=
  ∀ (s : State) (rlist : BitVec 8),
    (∃ t, exec (.pop rlist) s = .next t ∧ t.sp = s.sp + BitVec.ofNat 16 (listedRegs rlist).length ∧
      (∀ (k : Nat) (h : k < (listedRegs rlist).length),
        t.getReg (listedRegs rlist)[k] = s.readMem (s.sp + BitVec.ofNat 16 k)) ∧
      KeepsOtherSp s t ∧ LoadFrame (listedRegs rlist) { s with spUsr := t.spUsr, spIrq := t.spIrq } t) ∧
    (∃ t, exec (.popPc rlist) s = .next t ∧ t.sp = s.sp + BitVec.ofNat 16 ((listedRegs rlist).length + 1) ∧
      (∀ (k : Nat) (h : k < (listedRegs rlist).length),
        t.getReg (listedRegs rlist)[k] = s.readMem (s.sp + BitVec.ofNat 16 k)) ∧
      t.pc = s.readMem (s.sp + BitVec.ofNat 16 (listedRegs rlist).length) ∧
      KeepsOtherSp s t ∧ LoadFrame (listedRegs rlist) { s with pc := t.pc, spUsr := t.spUsr, spIrq := t.spIrq } t)

/-- POP {list, PC} after PUSH {list, LR} restores the listed registers and SP and returns to LR
(43_address_stack_multiple.md section 3 (R268, R269), 44_branch_swi_bl.md section 6 (R307)). -/
def Obligations.PopRestoresWhatPushSaved : Prop :=
  ∀ (s : State) (rlist : BitVec 8), ∃ t, exec (.pushLr rlist) s = .next t ∧
    ∀ u : State, u.mem = t.mem → u.sp = t.sp → ∃ v, exec (.popPc rlist) u = .next v ∧
      (∀ r ∈ listedRegs rlist, v.getReg r = s.getReg r) ∧ v.sp = s.sp ∧ v.pc = s.lr

/-- STMIA: old register values at Rb and up, Rb past the last word; an empty list faults (43_address_stack_multiple.md
section 4 (R271, R272, R274, R275, D14, D10)). What is stored for Rb in the list is the spec's decision D14 (log
entry 12), the fault its decision D10 (log entry 8). -/
def Obligations.StoreMultipleStoresTheListUpward : Prop :=
  ∀ (s : State) (rb : Reg) (rlist : BitVec 8),
    (rlist ≠ 0#8 → ∃ t, exec (.stmia rb rlist) s = .next t ∧
      t.getReg rb = s.getReg rb + BitVec.ofNat 16 (listedRegs rlist).length ∧
      (∀ (k : Nat) (h : k < (listedRegs rlist).length),
        t.readMem (s.getReg rb + BitVec.ofNat 16 k) = s.getReg (listedRegs rlist)[k]) ∧
      StoreFrame [rb] (s.getReg rb) (listedRegs rlist).length s t) ∧
    (rlist = 0#8 → exec (.stmia rb rlist) s = .fault (.illegalInstruction (s.pc - 1#16) (s.readMem (s.pc - 1#16))))

/-- LDMIA: registers from Rb and up, Rb past the last word even if listed; an empty list faults
(43_address_stack_multiple.md section 4 (R271, R273 to R275, D14, D10)). That the writeback wins where Rb is listed
is the spec's decision D14 (log entry 12), the fault its decision D10 (log entry 8). -/
def Obligations.LoadMultipleLoadsTheListUpward : Prop :=
  ∀ (s : State) (rb : Reg) (rlist : BitVec 8),
    (rlist ≠ 0#8 → ∃ t, exec (.ldmia rb rlist) s = .next t ∧
      t.getReg rb = s.getReg rb + BitVec.ofNat 16 (listedRegs rlist).length ∧
      (∀ (k : Nat) (h : k < (listedRegs rlist).length), (listedRegs rlist)[k] ≠ rb →
        t.getReg (listedRegs rlist)[k] = s.readMem (s.getReg rb + BitVec.ofNat 16 k)) ∧
      LoadFrame (rb :: listedRegs rlist) s t) ∧
    (rlist = 0#8 → exec (.ldmia rb rlist) s = .fault (.illegalInstruction (s.pc - 1#16) (s.readMem (s.pc - 1#16))))

/-- SWI saves pc and CPSR, clears flags and I, enters SWI mode and goes to $0010 (R296). -/
def Obligations.SoftwareInterruptEntry : Prop :=
  ∀ (s : State) (imm8 : BitVec 8), ∃ t, exec (.swi imm8) s = .next t ∧ t.lrSwi = s.pc ∧ t.spsrSwi = s.cpsr.toWord ∧
    t.cpsr.toWord = 0x0011#16 ∧ t.cpsr.m = .swi ∧ t.cpsr.i = false ∧ t.pc = 0x0010#16 ∧ KeepsRegsBut [] s t ∧
    KeepsMemory s t ∧ KeepsSp s t ∧ t.lrUsr = s.lrUsr ∧ t.lrIrq = s.lrIrq ∧ t.spsrIrq = s.spsrIrq ∧ KeepsDevices s t

/-- RSI restores CPSR from SPSR_swi and pc from LR_swi; a reserved mode faults (41_bx_hw_cpsr.md section 3 (R212, D19),
10_state.md section 5 (R30, R35, D28)). Copy and not exchange is the spec's decision D19, the fault its decision
D28, the bit positions its decision D5, completion in every mode, User among them, its decision D20 (log entries 16,
9, 3, 17). -/
def Obligations.ReturnFromSoftwareInterrupt : Prop :=
  ∀ (s : State) (w : Word), s.spsrSwi = w →
    (validStatus w = true → ∃ t, exec .rsi s = .next t ∧ t.cpsr.toWord = w &&& 0xF09F#16 ∧
      t.pc = s.lrSwi ∧ t.cpsr.n = w.getLsbD 15 ∧ t.cpsr.z = w.getLsbD 14 ∧ t.cpsr.c = w.getLsbD 13 ∧ t.cpsr.v = w.getLsbD 12 ∧
        t.cpsr.i = w.getLsbD 7 ∧
      LoadFrame [] { s with pc := t.pc, cpsr := t.cpsr } t) ∧
    (validStatus w = false → exec .rsi s = .fault (.reservedMode (s.pc - 1#16) w))

/-- RFI pops r0 from SP_irq, restores CPSR from SPSR_irq and pc from LR_irq; a reserved mode faults (41_bx_hw_cpsr.md
section 3 (R211, D18, D19), 10_state.md section 5 (R30, R35, D28)). pc from LR_irq is the spec's decision D18, copy
its decision D19, the fault its decision D28, the bit positions its decision D5, completion in every mode its
decision D20 (log entries 16, 9, 3, 17). -/
def Obligations.ReturnFromHardwareInterrupt : Prop :=
  ∀ (s : State) (w : Word), s.spsrIrq = w →
    (validStatus w = true → ∃ t, exec .rfi s = .next t ∧ t.cpsr.toWord = w &&& 0xF09F#16 ∧
      t.pc = s.lrIrq ∧ t.getReg .r0 = s.readMem s.spIrq ∧ t.spIrq = s.spIrq + 1#16 ∧
      t.cpsr.n = w.getLsbD 15 ∧ t.cpsr.z = w.getLsbD 14 ∧ t.cpsr.c = w.getLsbD 13 ∧ t.cpsr.v = w.getLsbD 12 ∧
        t.cpsr.i = w.getLsbD 7 ∧
      LoadFrame [.r0] { s with pc := t.pc, cpsr := t.cpsr, spIrq := t.spIrq } t) ∧
    (validStatus w = false → exec .rfi s = .fault (.reservedMode (s.pc - 1#16) w))

/-- IFS sets I and IFC clears it, in every mode, and nothing else changes (41_bx_hw_cpsr.md section 3 (R210, R213, R214,
D20)). That both complete in every mode is the spec's decision D20 (log entry 17). -/
def Obligations.InterruptFlagSetAndClear : Prop :=
  ∀ s : State, exec .ifs s = .next { s with cpsr := { s.cpsr with i := true } } ∧
    exec .ifc s = .next { s with cpsr := { s.cpsr with i := false } }

/-- MRS writes and MSR reads the SPSR of the current mode; in User mode both are illegal (41_bx_hw_cpsr.md section 3
(R215, R216, D21, D31)). The fault in User mode is the spec's decision D21 (log entry 8), all 16 bits its decision
D32 (log entry 28), the directions of MRS and MSR its conflict C10 (log entry 29). -/
def Obligations.SavedStatusMovesInPrivilegedModes : Prop :=
  ∀ (s : State) (rd : Reg),
    (s.cpsr.m = .swi → exec (.mrs rd) s = .next { s with spsrSwi := s.getReg rd } ∧
      ∃ t, exec (.msr rd) s = .next t ∧ t.getReg rd = s.spsrSwi ∧ LoadFrame [rd] s t) ∧
    (s.cpsr.m = .irq → exec (.mrs rd) s = .next { s with spsrIrq := s.getReg rd } ∧
      ∃ t, exec (.msr rd) s = .next t ∧ t.getReg rd = s.spsrIrq ∧ LoadFrame [rd] s t) ∧
    (s.cpsr.m = .user →
      exec (.mrs rd) s = .fault (.illegalInstruction (s.pc - 1#16) (s.readMem (s.pc - 1#16))) ∧
      exec (.msr rd) s = .fault (.illegalInstruction (s.pc - 1#16) (s.readMem (s.pc - 1#16))))

/-- CPSR to word and back is the identity, and a word copied to CPSR keeps all but its reserved bits (10_state.md
section 5 (R30, R31, R35, D5, D6)). The bit positions and mode codes are the spec's decisions D5 and D6 (log entry
3). -/
def Obligations.StatusWordConversionsAgree : Prop :=
  (∀ p : Cpsr, Cpsr.ofWord p.toWord = some p ∧ p.toWord &&& 0x0F60#16 = 0#16) ∧
    ∀ w : Word, ((Cpsr.ofWord w).isSome = validStatus w) ∧
      ∀ p : Cpsr, Cpsr.ofWord w = some p → p.toWord = w &&& 0xF09F#16

/-- RSI after SWI resumes the caller with its own flags, interrupt enable and mode (44_branch_swi_bl.md section 2
(R296), 41_bx_hw_cpsr.md section 3 (R212), 60_exceptions.md section 5 (R339)). -/
def Obligations.SoftwareInterruptAndReturnRestoreTheCaller : Prop :=
  ∀ (s : State) (imm8 : BitVec 8), ∃ t, exec (.swi imm8) s = .next t ∧
    ∀ u : State, u.lrSwi = t.lrSwi → u.spsrSwi = t.spsrSwi →
      ∃ v, exec .rsi u = .next v ∧ v.pc = s.pc ∧ v.cpsr = s.cpsr ∧ v.regs = u.regs ∧ KeepsSp u v ∧ KeepsMemory u v

/-- RFI undoes IRQ entry: r0, SP_irq, CPSR and pc of the interrupted program come back (60_exceptions.md sections 3 and
5 (R335, R336, R339, D17), 41_bx_hw_cpsr.md section 3 (R211, D18)). IRQ entry and pc on RFI are the spec's decisions
D17 and D18 (log entries 15, 16). -/
def Obligations.ReturnFromInterruptRestoresR0SpStatusAndPc : Prop :=
  ∀ (s u : State) (msg : Word), u.spIrq = (s.enterIrq msg).spIrq → u.lrIrq = (s.enterIrq msg).lrIrq →
    u.spsrIrq = (s.enterIrq msg).spsrIrq → u.readMem u.spIrq = (s.enterIrq msg).readMem u.spIrq →
    ∃ v, exec .rfi u = .next v ∧ v.getReg .r0 = s.getReg .r0 ∧ v.spIrq = s.spIrq ∧ v.cpsr = s.cpsr ∧ v.pc = s.pc ∧
      KeepsRegsBut [.r0] u v

/-- Every instruction completes exactly when the spec gives it an effect, in every state (60_exceptions.md section 1
(R330), 30_encoding.md section 6 (R117 to R122), 10_state.md section 5 (R35)). Which words are illegal includes the
spec's decisions D10, D11, D21, D28 (log entries 8, 9); that PUSH and POP complete with an empty list is its
decision D13 (log entry 11), RSI and RFI in User mode its decision D20 (log entry 17); that HWI returns is log entry
21. -/
def Obligations.InstructionsCompleteExactlyWhenExecutable : Prop :=
  ∀ (i : Instr) (s : State), (∃ t, exec i s = .next t) ↔ executable i s = true

/-- No instruction is refused, and each fault names the instruction it stopped at (60_exceptions.md sections 1 and 6
(R330, R341, D10), 10_state.md section 5 (R35, D28)). The faults are the spec's decisions D10 and D28 (log entries
8, 9). -/
def Obligations.EveryStopIsOneOfTheTwoModelFaults : Prop :=
  ∀ (i : Instr) (s : State), (∀ r, exec i s ≠ .refused r) ∧
    ∀ f, exec i s = .fault f →
      f = .illegalInstruction (s.pc - 1#16) (s.readMem (s.pc - 1#16)) ∨
      (i = .rsi ∧ f = .reservedMode (s.pc - 1#16) s.spsrSwi) ∨ (i = .rfi ∧ f = .reservedMode (s.pc - 1#16) s.spsrIrq)

/-- Each of the 18 illegal, unused and unallocated rows stops with IllegalInstruction in every state (30_encoding.md
section 6 (R117 to R120, D11), 60_exceptions.md section 6 (R341, D10)). What the processor does with such a word is
the spec's decisions D10 and D11 (log entry 8). -/
def Obligations.IllegalRowsStopWithIllegalInstruction : Prop :=
  ∀ (s : State) (i : Instr),
    i ∈ [.illegalF6, .illegalF7, .unallocated0100010, .unusedF10, .unusedF12, .unallocated1011x0001, .unallocated1011x0010, .unallocated1011x0011,
      .unallocated1011x0110, .unallocated1011x0111, .unallocated1011x1000, .unallocated1011x1001,
      .unallocated1011x1010, .unallocated1011x1011, .unallocated1011x1110, .unallocated1011x1111,
      .illegalCond1110, .unallocated11101] →
    exec i s = .fault (.illegalInstruction (s.pc - 1#16) (s.readMem (s.pc - 1#16)))

/-- A step that fetches a word that is no instruction stops with its address and the word itself (60_exceptions.md
section 6 (R341, D10), 30_encoding.md section 6 (R117 to R122)). The fault is the spec's decision D10 (log entry 8). -/
def Obligations.StepStopsAtAnIllegalWord : Prop :=
  ∀ (s : State) (d : DeviceTick), s.takenInterrupt d = none →
    (decode ((s.afterTick d).readMem s.pc)).wellFormed = false →
    stepWith d s = .fault (.illegalInstruction s.pc ((s.afterTick d).readMem s.pc))

/-- Only SWI, RSI and RFI change the mode, and only they, IFS and IFC change I (60_exceptions.md section 7 (R343),
10_state.md section 5 (R33)). -/
def Obligations.ModeAndInterruptFlagChangeOnlyByNamedInstructions : Prop :=
  ∀ (i : Instr) (s t : State), exec i s = .next t →
    (t.cpsr.m ≠ s.cpsr.m → replacesStatus i = true) ∧
    (t.cpsr.i ≠ s.cpsr.i → replacesStatus i = true ∨ i = .ifs ∨ i = .ifc)

/-- Only Formats 1 to 4 and SWI, RSI, RFI change a condition code (10_state.md section 5 (R32)). -/
def Obligations.ConditionCodesChangeOnlyInFormats1To4AndBySwiRsiRfi : Prop :=
  ∀ (i : Instr) (s t : State), exec i s = .next t →
    (t.cpsr.n ≠ s.cpsr.n ∨ t.cpsr.z ≠ s.cpsr.z ∨ t.cpsr.c ≠ s.cpsr.c ∨ t.cpsr.v ≠ s.cpsr.v) →
    setsFlags i = true ∨ replacesStatus i = true

/-- Stack pointers, link registers and saved status change only by the instructions the spec lists (10_state.md section
2 (R22), 10_state.md section 4 (R28, D16), 10_state.md section 5 (R34)). The bank LR_irq is the spec's decision D16
(log entry 14). -/
def Obligations.BankedRegistersChangeOnlyByNamedInstructions : Prop :=
  ∀ (i : Instr) (s t : State), exec i s = .next t →
    (¬ KeepsSp s t → writesSp i = true) ∧ (¬ KeepsLr s t → writesLr i = true) ∧
    (t.spsrSwi ≠ s.spsrSwi → (∃ n, i = .swi n) ∨ (s.cpsr.m = .swi ∧ ∃ rd, i = .mrs rd)) ∧
    (t.spsrIrq ≠ s.spsrIrq → s.cpsr.m = .irq ∧ ∃ rd, i = .mrs rd) ∧ (t.pc ≠ s.pc → writesPc i = true)

/-- Only stores, pushes, STMIA and HWI change a word of memory or the devices' state (20_memory.md section 1 (R63),
20_memory.md section 7 (R73), 41_bx_hw_cpsr.md section 2 (R203, R207)). Which instructions store is R63; that a
device changes memory and the devices' state in HWI and between instructions only is the spec's decisions D24 and
D27 (log entries 20, 18). -/
def Obligations.MemoryChangesOnlyByStoresAndHwi : Prop :=
  ∀ (i : Instr) (s t : State), exec i s = .next t →
    (¬ KeepsMemory s t → writesMemory i = true) ∧ (t.devState ≠ s.devState → ∃ rd, i = .hwi rd)

/-- HWN writes the number of connected devices and nothing else (R205). -/
def Obligations.DeviceCountIsDelivered : Prop :=
  ∀ (s : State) (rd : Reg), ∃ t, exec (.hwn rd) s = .next t ∧ t.getReg rd = Config.deviceCount ∧ LoadFrame [rd] s t

/-- HWQ writes the five words of the device's identity to r0..r4, zeros for an absent device (41_bx_hw_cpsr.md section 2
(R204, R206, D26, D27)). Which registers HWQ writes is the spec's decision D26, the zeros its decision D27 (log
entries 19, 18). -/
def Obligations.DeviceQueryFillsFiveRegisters : Prop :=
  ∀ (s : State) (rd : Reg), ∃ t, exec (.hwq rd) s = .next t ∧
    (∀ q : DeviceId, q = (if (s.getReg rd).toNat < Config.deviceCount.toNat then Config.query (s.getReg rd)
        else { idLo := 0, idHi := 0, version := 0, mfrLo := 0, mfrHi := 0 }) →
      t.getReg .r0 = q.idLo ∧ t.getReg .r1 = q.idHi ∧ t.getReg .r2 = q.version ∧ t.getReg .r3 = q.mfrLo ∧
      t.getReg .r4 = q.mfrHi) ∧
    LoadFrame [.r0, .r1, .r2, .r3, .r4] s t

/-- HWI lets a present device change general registers, memory words and device state, and no more (41_bx_hw_cpsr.md
section 2 (R203, R204, R207, D27)). The footprint and the absent device are the spec's decision D27 (log entry 18);
that HWI always returns is log entry 21. -/
def Obligations.DeviceSignalKeepsToItsFootprint : Prop :=
  ∀ (s : State) (rd : Reg), ∃ t, exec (.hwi rd) s = .next t ∧ t.cpsr = s.cpsr ∧ t.pc = s.pc ∧ KeepsSp s t ∧ KeepsLr s t ∧
    KeepsSpsr s t ∧ t.boundary = s.boundary ∧ (s.getReg rd = 0xFFFF#16 → t = s) ∧
    (∀ e : HwiEffect, e = Config.hwiEffect (s.getReg rd) s.regs s.mem s.devState →
      if (s.getReg rd).toNat < Config.deviceCount.toNat then
        t.regs = e.regs ∧ t.devState = e.devState ∧ t.mem = s.mem.writeAll e.writes ∧
          ∀ a, (∀ w ∈ e.writes, w.1 ≠ a) → t.readMem a = s.readMem a
      else t = s)
end

