-- ==== Sys2Proof/Laws/Encoding.lean ====
section
/-! SUPPORT. Fields of an instruction word: reading back a placed field, and what placing leaves alone. -/

namespace Sys2Proof

@[simp] theorem Reg.ofNum_num (r : Reg) : Reg.ofNum r.num = r := by cases r <;> rfl

@[simp] theorem Reg.num_ofNum (b : BitVec 3) : (Reg.ofNum b).num = b := by
  revert b; decide

/-- Bits of the word as a slice, whatever the slice's width. -/
theorem slice_or (v w : Word) (lo k : Nat) :
    (v ||| w).extractLsb' lo k = v.extractLsb' lo k ||| w.extractLsb' lo k := by
  ext i hi; simp

/-- Bit `j` of a placed field. -/
theorem getLsbD_place {k : Nat} (x : BitVec k) (lo j : Nat) (hj : j < 16) :
    (place x lo).getLsbD j = (decide (lo ≤ j) && x.getLsbD (j - lo)) := by
  simp [place, hj]
  by_cases h : lo ≤ j
  · simp [h]
  · simp [h, show j < lo by omega]

/-- A placed field reads back. -/
theorem slice_place_self {k : Nat} (x : BitVec k) (lo : Nat) (h : lo + k ≤ 16) : (place x lo).extractLsb' lo k = x := by
  ext i hi
  have h1 : lo + i < 16 := by omega
  rw [BitVec.getElem_extractLsb', getLsbD_place x lo (lo + i) h1]
  simp [BitVec.getLsbD_eq_getElem hi]

/-- A slice above a placed field reads 0. -/
theorem slice_place_below {k : Nat} (x : BitVec k) (lo hi n : Nat) (h : lo + k ≤ hi) (hn : hi + n ≤ 16) :
    (place x lo).extractLsb' hi n = 0#n := by
  ext i hi'
  rw [BitVec.getElem_extractLsb', getLsbD_place x lo (hi + i) (by omega)]
  simp [BitVec.getLsbD_of_ge x (hi + i - lo) (by omega)]

/-- A slice below a placed field reads 0. -/
theorem slice_place_above {k : Nat} (x : BitVec k) (lo hi n : Nat) (h : hi + n ≤ lo) (hn : hi + n ≤ 16) :
    (place x lo).extractLsb' hi n = 0#n := by
  ext i hi'
  rw [BitVec.getElem_extractLsb', getLsbD_place x lo (hi + i) (by omega)]
  simp [show ¬ lo ≤ hi + i by omega]

/-- A mask that is 0 in a field's bits removes the field. -/
theorem place_and_mask {k : Nat} (x : BitVec k) (lo : Nat) (mask : Word)
    (h : ∀ j : Fin 16, lo ≤ j.val → j.val < lo + k → mask.getLsbD j.val = false) : place x lo &&& mask = 0#16 := by
  ext j hj
  have hp := getLsbD_place x lo j hj
  rw [BitVec.getElem_and, ← BitVec.getLsbD_eq_getElem hj, hp, ← BitVec.getLsbD_eq_getElem hj]
  by_cases h1 : lo ≤ j
  · by_cases h2 : j < lo + k
    · have hm : mask.getLsbD j = false := h ⟨j, hj⟩ h1 h2
      simp [hm]
    · simp [BitVec.getLsbD_of_ge x (j - lo) (by omega)]
  · simp [h1]

theorem or_and_mask (v w mask : Word) : (v ||| w) &&& mask = (v &&& mask) ||| (w &&& mask) := by
  ext j hj
  simp [Bool.and_or_distrib_right]

/-! ## The row of a word built from fixed bits and fields -/

/-- A word of fixed bits and one field. -/
theorem one_field {k : Nat} (c m : Word) (x : BitVec k) (lo : Nat)
    (h : ∀ j : Fin 16, lo ≤ j.val → j.val < lo + k → m.getLsbD j.val = false) (hc : c &&& m = c) :
    (c ||| place x lo) &&& m = c := by
  rw [or_and_mask, place_and_mask x lo m h, hc, BitVec.or_zero]

/-- A word of fixed bits and two fields. -/
theorem two_fields {k l : Nat} (c m : Word) (x : BitVec k) (lo : Nat) (y : BitVec l) (lo' : Nat)
    (h : ∀ j : Fin 16, lo ≤ j.val → j.val < lo + k → m.getLsbD j.val = false)
    (h' : ∀ j : Fin 16, lo' ≤ j.val → j.val < lo' + l → m.getLsbD j.val = false) (hc : c &&& m = c) :
    (c ||| place x lo ||| place y lo') &&& m = c := by
  rw [or_and_mask, one_field c m x lo h hc, place_and_mask y lo' m h', BitVec.or_zero]

/-- A word of fixed bits and three fields. -/
theorem three_fields {k l n : Nat} (c m : Word) (x : BitVec k) (lo : Nat) (y : BitVec l) (lo' : Nat) (z : BitVec n)
    (lo'' : Nat) (h : ∀ j : Fin 16, lo ≤ j.val → j.val < lo + k → m.getLsbD j.val = false)
    (h' : ∀ j : Fin 16, lo' ≤ j.val → j.val < lo' + l → m.getLsbD j.val = false)
    (h'' : ∀ j : Fin 16, lo'' ≤ j.val → j.val < lo'' + n → m.getLsbD j.val = false) (hc : c &&& m = c) :
    (c ||| place x lo ||| place y lo' ||| place z lo'') &&& m = c := by
  rw [or_and_mask, two_fields c m x lo y lo' h h' hc, place_and_mask z lo'' m h'', BitVec.or_zero]

/-! ## The numbered formats (R1) -/

/-- The formats are numbered 1 to 22. -/
theorem Instr.format_range (i : Instr) (n : Nat) (h : i.format = some n) : 1 ≤ n ∧ n ≤ 22 := by
  cases i <;> cases h <;> decide

/-- Only the unallocated patterns, which are no instructions, belong to no format. -/
theorem Instr.format_isSome_of_wellFormed (i : Instr) (h : i.wellFormed = true) : i.format.isSome = true := by
  cases i <;> first | rfl | cases h

/-- Format 10 is its unused pattern and nothing else. -/
theorem Instr.format_eq_ten_iff (i : Instr) : i.format = some 10 ↔ i = .unusedF10 := by
  cases i <;> simp [Instr.format]

/-- Format 12 is its unused pattern and nothing else. -/
theorem Instr.format_eq_twelve_iff (i : Instr) : i.format = some 12 ↔ i = .unusedF12 := by
  cases i <;> simp [Instr.format]

/-- The formats that hold an instruction are all of 1 to 22 but 10 and 12. -/
theorem Instr.format_used_iff (n : Nat) :
    (∃ i : Instr, i.wellFormed = true ∧ i.format = some n) ↔ 1 ≤ n ∧ n ≤ 22 ∧ n ≠ 10 ∧ n ≠ 12 := by
  constructor
  · rintro ⟨i, hw, hf⟩
    obtain ⟨h1, h2⟩ := i.format_range n hf
    refine ⟨h1, h2, ?_, ?_⟩
    · rintro rfl
      rw [i.format_eq_ten_iff.1 hf] at hw
      cases hw
    · rintro rfl
      rw [i.format_eq_twelve_iff.1 hf] at hw
      cases hw
  · rintro ⟨h1, h2, h3, h4⟩
    let l : List Instr :=
      [.lslImm .r0 .r0 0#5, .addReg .r0 .r0 .r0, .movImm .r0 0#8, .and .r0 .r0, .bx .r0, .hwn .r0, .rfi, .ldrPc .r0 0#8,
        .strReg .r0 .r0 .r0, .strImm .r0 .r0 0#5, .strSp .r0 0#8, .addPc .r0 0#8, .addSpImm 0#7, .push 0#8,
        .stmia .r0 1#8, .beq 0#8, .swi 0#8, .b 0#11, .blImm 0#11, .blHi 0#8]
    have hw : ∀ i ∈ l, i.wellFormed = true := by decide
    have hf : l.map Instr.format =
        [1, 2, 3, 4, 5, 6, 7, 8, 9, 11, 13, 14, 15, 16, 17, 18, 19, 20, 21, 22].map some := rfl
    have hn : some n ∈ l.map Instr.format := by
      rw [hf]
      simp
      omega
    obtain ⟨i, hi, h⟩ := List.mem_map.1 hn
    exact ⟨i, hw i hi, h⟩

/-- The instructions of Format 6, by which the processor talks to the devices, are `HWN`, `HWQ` and `HWI`. -/
theorem Instr.format_six_iff (i : Instr) :
    (i.wellFormed = true ∧ i.format = some 6) ↔ ∃ rd, i = .hwn rd ∨ i = .hwq rd ∨ i = .hwi rd := by
  cases i <;> simp [Instr.format, Instr.wellFormed]

end Sys2Proof
end

