-- ==== Sys2Proof/Laws/Memory.lean ====
section
/-! SUPPORT. Memory: a read after a write, and every operation keeps the canonical form. -/

namespace Sys2Proof.Machine

/-! ## The list operations, at a number -/

theorem Memory.lookup_of_forall_ne (m : Memory) (k : Nat) (h : ∀ e ∈ m, e.1 ≠ k) :
    m.lookup k = Config.unwrittenWord := by
  induction m with
  | nil => rfl
  | cons e rest ih =>
    simp only [List.mem_cons, forall_eq_or_imp] at h
    simp [Memory.lookup, h.1, ih h.2]

theorem Memory.erase_cons (e : Nat × Word) (m : Memory) (k : Nat) :
    Memory.erase (e :: m) k = if e.1 = k then m.erase k else e :: m.erase k := by
  by_cases h : e.1 = k <;> simp [Memory.erase, h]

theorem Memory.mem_erase (m : Memory) (k : Nat) (e : Nat × Word) : e ∈ m.erase k ↔ e ∈ m ∧ e.1 ≠ k := by
  simp [Memory.erase]

@[simp] theorem Memory.lookup_erase (m : Memory) (k j : Nat) :
    (m.erase k).lookup j = if j = k then Config.unwrittenWord else m.lookup j := by
  induction m with
  | nil => simp [Memory.erase, Memory.lookup]
  | cons e rest ih =>
    rw [Memory.erase_cons]
    by_cases h1 : e.1 = k
    · by_cases h2 : j = k
      · subst h2; simpa [h1] using ih
      · simp [h1, ih, h2, Memory.lookup, Ne.symm h2]
    · by_cases h2 : e.1 = j
      · have h3 : j ≠ k := h2 ▸ h1
        simp [Memory.lookup, h2, h3]
      · simp [h1, Memory.lookup, h2, ih]

theorem Memory.mem_insertSorted (m : Memory) (k : Nat) (v : Word) (e : Nat × Word) :
    e ∈ m.insertSorted k v ↔ e = (k, v) ∨ e ∈ m := by
  induction m with
  | nil => simp [Memory.insertSorted]
  | cons x rest ih =>
    by_cases h : k < x.1
    · simp [Memory.insertSorted, h]
    · simp only [Memory.insertSorted, h, if_false, List.mem_cons, ih]; tauto

/-- Inserting an address the list does not hold. -/
theorem Memory.lookup_insertSorted (m : Memory) (k j : Nat) (v : Word) (hk : ∀ e ∈ m, e.1 ≠ k) :
    (m.insertSorted k v).lookup j = if j = k then v else m.lookup j := by
  induction m with
  | nil => simp [Memory.insertSorted, Memory.lookup, eq_comm]
  | cons x rest ih =>
    simp only [List.mem_cons, forall_eq_or_imp] at hk
    by_cases h : k < x.1
    · simp [Memory.insertSorted, h, Memory.lookup, eq_comm]
    · by_cases hj : j = k
      · subst hj; simp [Memory.insertSorted, h, Memory.lookup, hk.1, ih hk.2]
      · simp [Memory.insertSorted, h, Memory.lookup, ih hk.2, hj]

/-! ## Read after write (R62) -/

/-- What any address reads after a write. It holds for every list, canonical or not. -/
@[simp] theorem Memory.read_write (m : Memory) (a b v : Word) :
    (m.write a v).read b = if b = a then v else m.read b := by
  have hab : b.toNat = a.toNat ↔ b = a := ⟨BitVec.eq_of_toNat_eq, fun h => h ▸ rfl⟩
  have hne : ∀ e ∈ m.erase a.toNat, e.1 ≠ a.toNat := fun e he => ((m.mem_erase _ e).mp he).2
  unfold Memory.write Memory.read
  split
  · rename_i hv; simp [hab, hv]
  · rw [Memory.lookup_insertSorted _ _ _ _ hne]
    by_cases h : b = a <;> simp [hab, h]

theorem Memory.read_write_self (m : Memory) (a v : Word) : (m.write a v).read a = v := by simp

theorem Memory.read_write_of_ne (m : Memory) {a b : Word} (v : Word) (h : b ≠ a) :
    (m.write a v).read b = m.read b := by simp [h]

@[simp] theorem Memory.read_nil (a : Word) : Memory.read [] a = Config.unwrittenWord := rfl

/-- A list of single writes leaves every address it does not name. -/
theorem Memory.read_writeAll_of_forall_ne (m : Memory) (ws : List (Word × Word)) (b : Word)
    (h : ∀ e ∈ ws, e.1 ≠ b) : (m.writeAll ws).read b = m.read b := by
  induction ws generalizing m with
  | nil => rfl
  | cons e rest ih =>
    simp only [List.mem_cons, forall_eq_or_imp] at h
    simp [Memory.writeAll, ih _ h.2, Ne.symm h.1]

@[simp] theorem Memory.writeAll_nil (m : Memory) : m.writeAll [] = m := rfl

/-! ## Multi-word stores and loads (R68, R78) -/

@[simp] theorem Memory.storeWords_nil (m : Memory) (a : Word) : m.storeWords a [] = m := rfl

@[simp] theorem Memory.storeWords_cons (m : Memory) (a v : Word) (vs : List Word) :
    m.storeWords a (v :: vs) = (m.write a v).storeWords (a + 1#16) vs := rfl

theorem add_one_add_ofNat (a : Word) (k : Nat) : a + 1#16 + BitVec.ofNat 16 k = a + BitVec.ofNat 16 (k + 1) := by
  rw [BitVec.ofNat_add, BitVec.add_assoc, BitVec.add_comm (BitVec.ofNat 16 k)]

theorem ofNat_succ_ne_zero {k : Nat} (h : k + 1 < 65536) : BitVec.ofNat 16 (k + 1) ≠ 0#16 := by
  intro h0
  have := congrArg BitVec.toNat h0
  simp at this
  omega

/-- A multi-word store leaves every address outside its words. -/
theorem Memory.read_storeWords_of_forall_ne (m : Memory) (a b : Word) (vs : List Word)
    (h : ∀ k, k < vs.length → b ≠ a + BitVec.ofNat 16 k) : (m.storeWords a vs).read b = m.read b := by
  induction vs generalizing m a with
  | nil => rfl
  | cons v rest ih =>
    have h0 : b ≠ a := by simpa using h 0 (by simp)
    rw [Memory.storeWords_cons, ih]
    · simp [h0]
    · intro k hk
      rw [add_one_add_ofNat]
      exact h (k + 1) (by simpa using hk)

/-- Word `k` of a multi-word store, where the store does not wrap onto itself. -/
theorem Memory.read_storeWords (m : Memory) (a : Word) (vs : List Word) (hlen : vs.length < 65536) (k : Nat)
    (hk : k < vs.length) : (m.storeWords a vs).read (a + BitVec.ofNat 16 k) = vs[k] := by
  induction vs generalizing m a k with
  | nil => simp at hk
  | cons v rest ih =>
    cases k with
    | zero =>
      rw [Memory.storeWords_cons, Memory.read_storeWords_of_forall_ne]
      · simp
      · intro j hj h
        rw [add_one_add_ofNat] at h
        simp only [List.length_cons] at hlen
        exact ofNat_succ_ne_zero (k := j) (by omega) (by simpa using h)
    | succ j =>
      simp only [List.length_cons] at hlen hk
      rw [Memory.storeWords_cons, ← add_one_add_ofNat a j, ih _ _ (by omega) _ (by omega)]
      rfl

@[simp] theorem Regs.loadWords_nil (g : Regs) (m : Memory) (a : Word) : g.loadWords m a [] = g := rfl

@[simp] theorem Regs.loadWords_cons (g : Regs) (m : Memory) (a : Word) (r : Reg) (rs : List Reg) :
    g.loadWords m a (r :: rs) = (g.set r (m.read a)).loadWords m (a + 1#16) rs := rfl

/-! ## The canonical form -/

theorem Memory.wf_iff (m : Memory) :
    m.wf = true ↔ m.Pairwise (fun x y => x.1 < y.1) ∧ ∀ e ∈ m, e.1 < 65536 ∧ e.2 ≠ Config.unwrittenWord := by
  simp [Memory.wf]

theorem Memory.wf_nil : Memory.wf [] = true := rfl

theorem Memory.wf_erase (m : Memory) (k : Nat) (h : m.wf = true) : (m.erase k).wf = true := by
  rw [Memory.wf_iff] at h ⊢
  exact ⟨h.1.filter _, fun e he => h.2 e ((m.mem_erase k e).mp he).1⟩

theorem Memory.wf_insertSorted (m : Memory) (k : Nat) (v : Word) (h : m.wf = true) (hk : k < 65536)
    (hv : v ≠ Config.unwrittenWord) (hne : ∀ e ∈ m, e.1 ≠ k) : (m.insertSorted k v).wf = true := by
  rw [Memory.wf_iff] at h ⊢
  refine ⟨?_, ?_⟩
  · obtain ⟨hp, -⟩ := h
    induction m with
    | nil => simp [Memory.insertSorted]
    | cons x rest ih =>
      simp only [List.mem_cons, forall_eq_or_imp] at hne
      obtain ⟨hx, hr⟩ := List.pairwise_cons.mp hp
      by_cases hlt : k < x.1
      · simp only [Memory.insertSorted, hlt, if_true]
        refine List.pairwise_cons.mpr ⟨?_, hp⟩
        intro y hy
        rcases List.mem_cons.mp hy with rfl | hy
        · exact hlt
        · exact lt_trans hlt (hx y hy)
      · simp only [Memory.insertSorted, hlt, if_false]
        refine List.pairwise_cons.mpr ⟨?_, ih hne.2 hr⟩
        intro y hy
        rcases (Memory.mem_insertSorted rest k v y).mp hy with rfl | hy
        · have := hne.1; simp only; omega
        · exact hx y hy
  · intro e he
    rcases (Memory.mem_insertSorted m k v e).mp he with rfl | he
    · exact ⟨hk, hv⟩
    · exact h.2 e he

theorem Memory.wf_write (m : Memory) (a v : Word) (h : m.wf = true) : (m.write a v).wf = true := by
  unfold Memory.write
  split
  · exact m.wf_erase _ h
  · rename_i hv
    exact (m.erase _).wf_insertSorted _ _ (m.wf_erase _ h) a.isLt hv (fun e he => ((m.mem_erase _ e).mp he).2)

theorem Memory.wf_writeAll (m : Memory) (ws : List (Word × Word)) (h : m.wf = true) : (m.writeAll ws).wf = true := by
  induction ws generalizing m with
  | nil => exact h
  | cons e rest ih => exact ih _ (m.wf_write _ _ h)

theorem Memory.wf_storeWords (m : Memory) (a : Word) (vs : List Word) (h : m.wf = true) :
    (m.storeWords a vs).wf = true := by
  induction vs generalizing m a with
  | nil => exact h
  | cons v rest ih => exact ih _ _ (m.wf_write _ _ h)

theorem State.afterTick_mem_wf (s : State) (d : DeviceTick) (h : s.mem.wf = true) : (s.afterTick d).mem.wf = true :=
  s.mem.wf_writeAll _ h

theorem State.enterIrq_mem_wf (s : State) (msg : Word) (h : s.mem.wf = true) : (s.enterIrq msg).mem.wf = true :=
  s.mem.wf_write _ _ h

end Sys2Proof.Machine
end

