-- ==== Sys2Proof/Laws/State.lean ====
section
/-! SUPPORT. One lemma per field per update of the state, so that no proof unfolds a record update; and what the
views of the current mode read after each update. -/

namespace Sys2Proof.Machine

/-! ## The register file -/

@[simp] theorem Regs.get_set (g : Regs) (r q : Reg) (v : Word) :
    (g.set r v).get q = if q = r then v else g.get q := by
  cases r <;> cases q <;> rfl

theorem Regs.get_set_self (g : Regs) (r : Reg) (v : Word) : (g.set r v).get r = v := by simp

theorem Regs.get_set_of_ne (g : Regs) {r q : Reg} (v : Word) (h : q ≠ r) : (g.set r v).get q = g.get q := by
  simp [h]

/-- Two register files that hold the same in every register are equal. -/
theorem Regs.ext_get {g h : Regs} (H : ∀ r, g.get r = h.get r) : g = h := by
  cases g; cases h
  have h0 := H .r0
  have h1 := H .r1
  have h2 := H .r2
  have h3 := H .r3
  have h4 := H .r4
  have h5 := H .r5
  have h6 := H .r6
  have h7 := H .r7
  simp only [Regs.get] at h0 h1 h2 h3 h4 h5 h6 h7
  simp [h0, h1, h2, h3, h4, h5, h6, h7]

theorem State.getReg_eq (s : State) (r : Reg) : s.getReg r = s.regs.get r := rfl

theorem State.readMem_eq (s : State) (a : Word) : s.readMem a = s.mem.read a := rfl

/-! ## `State.setReg` -/

@[simp] theorem State.setReg_regs (s : State) (r : Reg) (v : Word) : (s.setReg r v).regs = s.regs.set r v := rfl
@[simp] theorem State.setReg_pc (s : State) (r : Reg) (v : Word) : (s.setReg r v).pc = s.pc := rfl
@[simp] theorem State.setReg_spUsr (s : State) (r : Reg) (v : Word) : (s.setReg r v).spUsr = s.spUsr := rfl
@[simp] theorem State.setReg_spIrq (s : State) (r : Reg) (v : Word) : (s.setReg r v).spIrq = s.spIrq := rfl
@[simp] theorem State.setReg_lrUsr (s : State) (r : Reg) (v : Word) : (s.setReg r v).lrUsr = s.lrUsr := rfl
@[simp] theorem State.setReg_lrSwi (s : State) (r : Reg) (v : Word) : (s.setReg r v).lrSwi = s.lrSwi := rfl
@[simp] theorem State.setReg_lrIrq (s : State) (r : Reg) (v : Word) : (s.setReg r v).lrIrq = s.lrIrq := rfl
@[simp] theorem State.setReg_cpsr (s : State) (r : Reg) (v : Word) : (s.setReg r v).cpsr = s.cpsr := rfl
@[simp] theorem State.setReg_spsrSwi (s : State) (r : Reg) (v : Word) : (s.setReg r v).spsrSwi = s.spsrSwi := rfl
@[simp] theorem State.setReg_spsrIrq (s : State) (r : Reg) (v : Word) : (s.setReg r v).spsrIrq = s.spsrIrq := rfl
@[simp] theorem State.setReg_mem (s : State) (r : Reg) (v : Word) : (s.setReg r v).mem = s.mem := rfl
@[simp] theorem State.setReg_devState (s : State) (r : Reg) (v : Word) : (s.setReg r v).devState = s.devState := rfl
@[simp] theorem State.setReg_boundary (s : State) (r : Reg) (v : Word) : (s.setReg r v).boundary = s.boundary := rfl
@[simp] theorem State.setReg_readMem (s : State) (r : Reg) (v : Word) (k : Word) : (s.setReg r v).readMem k = s.readMem k := rfl
@[simp] theorem State.setReg_sp (s : State) (r : Reg) (v : Word) : (s.setReg r v).sp = s.sp := rfl
@[simp] theorem State.setReg_lr (s : State) (r : Reg) (v : Word) : (s.setReg r v).lr = s.lr := rfl
@[simp] theorem State.setReg_spsr (s : State) (r : Reg) (v : Word) : (s.setReg r v).spsr = s.spsr := rfl

/-! ## `State.writeMem` -/

@[simp] theorem State.writeMem_regs (s : State) (a v : Word) : (s.writeMem a v).regs = s.regs := rfl
@[simp] theorem State.writeMem_pc (s : State) (a v : Word) : (s.writeMem a v).pc = s.pc := rfl
@[simp] theorem State.writeMem_spUsr (s : State) (a v : Word) : (s.writeMem a v).spUsr = s.spUsr := rfl
@[simp] theorem State.writeMem_spIrq (s : State) (a v : Word) : (s.writeMem a v).spIrq = s.spIrq := rfl
@[simp] theorem State.writeMem_lrUsr (s : State) (a v : Word) : (s.writeMem a v).lrUsr = s.lrUsr := rfl
@[simp] theorem State.writeMem_lrSwi (s : State) (a v : Word) : (s.writeMem a v).lrSwi = s.lrSwi := rfl
@[simp] theorem State.writeMem_lrIrq (s : State) (a v : Word) : (s.writeMem a v).lrIrq = s.lrIrq := rfl
@[simp] theorem State.writeMem_cpsr (s : State) (a v : Word) : (s.writeMem a v).cpsr = s.cpsr := rfl
@[simp] theorem State.writeMem_spsrSwi (s : State) (a v : Word) : (s.writeMem a v).spsrSwi = s.spsrSwi := rfl
@[simp] theorem State.writeMem_spsrIrq (s : State) (a v : Word) : (s.writeMem a v).spsrIrq = s.spsrIrq := rfl
@[simp] theorem State.writeMem_mem (s : State) (a v : Word) : (s.writeMem a v).mem = s.mem.write a v := rfl
@[simp] theorem State.writeMem_devState (s : State) (a v : Word) : (s.writeMem a v).devState = s.devState := rfl
@[simp] theorem State.writeMem_boundary (s : State) (a v : Word) : (s.writeMem a v).boundary = s.boundary := rfl
@[simp] theorem State.writeMem_getReg (s : State) (a v : Word) (q : Reg) : (s.writeMem a v).getReg q = s.getReg q := rfl
@[simp] theorem State.writeMem_sp (s : State) (a v : Word) : (s.writeMem a v).sp = s.sp := rfl
@[simp] theorem State.writeMem_lr (s : State) (a v : Word) : (s.writeMem a v).lr = s.lr := rfl
@[simp] theorem State.writeMem_spsr (s : State) (a v : Word) : (s.writeMem a v).spsr = s.spsr := rfl

/-! ## `State.putSum` -/

@[simp] theorem State.putSum_regs (s : State) (rd : Reg) (x : AddResult) : (s.putSum rd x).regs = s.regs.set rd x.result := rfl
@[simp] theorem State.putSum_pc (s : State) (rd : Reg) (x : AddResult) : (s.putSum rd x).pc = s.pc := rfl
@[simp] theorem State.putSum_spUsr (s : State) (rd : Reg) (x : AddResult) : (s.putSum rd x).spUsr = s.spUsr := rfl
@[simp] theorem State.putSum_spIrq (s : State) (rd : Reg) (x : AddResult) : (s.putSum rd x).spIrq = s.spIrq := rfl
@[simp] theorem State.putSum_lrUsr (s : State) (rd : Reg) (x : AddResult) : (s.putSum rd x).lrUsr = s.lrUsr := rfl
@[simp] theorem State.putSum_lrSwi (s : State) (rd : Reg) (x : AddResult) : (s.putSum rd x).lrSwi = s.lrSwi := rfl
@[simp] theorem State.putSum_lrIrq (s : State) (rd : Reg) (x : AddResult) : (s.putSum rd x).lrIrq = s.lrIrq := rfl
@[simp] theorem State.putSum_cpsr (s : State) (rd : Reg) (x : AddResult) : (s.putSum rd x).cpsr = setNZCV x s.cpsr := rfl
@[simp] theorem State.putSum_spsrSwi (s : State) (rd : Reg) (x : AddResult) : (s.putSum rd x).spsrSwi = s.spsrSwi := rfl
@[simp] theorem State.putSum_spsrIrq (s : State) (rd : Reg) (x : AddResult) : (s.putSum rd x).spsrIrq = s.spsrIrq := rfl
@[simp] theorem State.putSum_mem (s : State) (rd : Reg) (x : AddResult) : (s.putSum rd x).mem = s.mem := rfl
@[simp] theorem State.putSum_devState (s : State) (rd : Reg) (x : AddResult) : (s.putSum rd x).devState = s.devState := rfl
@[simp] theorem State.putSum_boundary (s : State) (rd : Reg) (x : AddResult) : (s.putSum rd x).boundary = s.boundary := rfl
@[simp] theorem State.putSum_readMem (s : State) (rd : Reg) (x : AddResult) (k : Word) : (s.putSum rd x).readMem k = s.readMem k := rfl

/-! ## `State.flagSum` -/

@[simp] theorem State.flagSum_regs (s : State) (x : AddResult) : (s.flagSum x).regs = s.regs := rfl
@[simp] theorem State.flagSum_pc (s : State) (x : AddResult) : (s.flagSum x).pc = s.pc := rfl
@[simp] theorem State.flagSum_spUsr (s : State) (x : AddResult) : (s.flagSum x).spUsr = s.spUsr := rfl
@[simp] theorem State.flagSum_spIrq (s : State) (x : AddResult) : (s.flagSum x).spIrq = s.spIrq := rfl
@[simp] theorem State.flagSum_lrUsr (s : State) (x : AddResult) : (s.flagSum x).lrUsr = s.lrUsr := rfl
@[simp] theorem State.flagSum_lrSwi (s : State) (x : AddResult) : (s.flagSum x).lrSwi = s.lrSwi := rfl
@[simp] theorem State.flagSum_lrIrq (s : State) (x : AddResult) : (s.flagSum x).lrIrq = s.lrIrq := rfl
@[simp] theorem State.flagSum_cpsr (s : State) (x : AddResult) : (s.flagSum x).cpsr = setNZCV x s.cpsr := rfl
@[simp] theorem State.flagSum_spsrSwi (s : State) (x : AddResult) : (s.flagSum x).spsrSwi = s.spsrSwi := rfl
@[simp] theorem State.flagSum_spsrIrq (s : State) (x : AddResult) : (s.flagSum x).spsrIrq = s.spsrIrq := rfl
@[simp] theorem State.flagSum_mem (s : State) (x : AddResult) : (s.flagSum x).mem = s.mem := rfl
@[simp] theorem State.flagSum_devState (s : State) (x : AddResult) : (s.flagSum x).devState = s.devState := rfl
@[simp] theorem State.flagSum_boundary (s : State) (x : AddResult) : (s.flagSum x).boundary = s.boundary := rfl
@[simp] theorem State.flagSum_getReg (s : State) (x : AddResult) (q : Reg) : (s.flagSum x).getReg q = s.getReg q := rfl
@[simp] theorem State.flagSum_readMem (s : State) (x : AddResult) (k : Word) : (s.flagSum x).readMem k = s.readMem k := rfl

/-! ## `State.putLogic` -/

@[simp] theorem State.putLogic_regs (s : State) (rd : Reg) (v : Word) : (s.putLogic rd v).regs = s.regs.set rd v := rfl
@[simp] theorem State.putLogic_pc (s : State) (rd : Reg) (v : Word) : (s.putLogic rd v).pc = s.pc := rfl
@[simp] theorem State.putLogic_spUsr (s : State) (rd : Reg) (v : Word) : (s.putLogic rd v).spUsr = s.spUsr := rfl
@[simp] theorem State.putLogic_spIrq (s : State) (rd : Reg) (v : Word) : (s.putLogic rd v).spIrq = s.spIrq := rfl
@[simp] theorem State.putLogic_lrUsr (s : State) (rd : Reg) (v : Word) : (s.putLogic rd v).lrUsr = s.lrUsr := rfl
@[simp] theorem State.putLogic_lrSwi (s : State) (rd : Reg) (v : Word) : (s.putLogic rd v).lrSwi = s.lrSwi := rfl
@[simp] theorem State.putLogic_lrIrq (s : State) (rd : Reg) (v : Word) : (s.putLogic rd v).lrIrq = s.lrIrq := rfl
@[simp] theorem State.putLogic_cpsr (s : State) (rd : Reg) (v : Word) : (s.putLogic rd v).cpsr = setNZ v s.cpsr := rfl
@[simp] theorem State.putLogic_spsrSwi (s : State) (rd : Reg) (v : Word) : (s.putLogic rd v).spsrSwi = s.spsrSwi := rfl
@[simp] theorem State.putLogic_spsrIrq (s : State) (rd : Reg) (v : Word) : (s.putLogic rd v).spsrIrq = s.spsrIrq := rfl
@[simp] theorem State.putLogic_mem (s : State) (rd : Reg) (v : Word) : (s.putLogic rd v).mem = s.mem := rfl
@[simp] theorem State.putLogic_devState (s : State) (rd : Reg) (v : Word) : (s.putLogic rd v).devState = s.devState := rfl
@[simp] theorem State.putLogic_boundary (s : State) (rd : Reg) (v : Word) : (s.putLogic rd v).boundary = s.boundary := rfl
@[simp] theorem State.putLogic_readMem (s : State) (rd : Reg) (v : Word) (k : Word) : (s.putLogic rd v).readMem k = s.readMem k := rfl

/-! ## `State.putShift` -/

@[simp] theorem State.putShift_regs (s : State) (rd : Reg) (x : Word × Option Bool) : (s.putShift rd x).regs = s.regs.set rd x.1 := rfl
@[simp] theorem State.putShift_pc (s : State) (rd : Reg) (x : Word × Option Bool) : (s.putShift rd x).pc = s.pc := rfl
@[simp] theorem State.putShift_spUsr (s : State) (rd : Reg) (x : Word × Option Bool) : (s.putShift rd x).spUsr = s.spUsr := rfl
@[simp] theorem State.putShift_spIrq (s : State) (rd : Reg) (x : Word × Option Bool) : (s.putShift rd x).spIrq = s.spIrq := rfl
@[simp] theorem State.putShift_lrUsr (s : State) (rd : Reg) (x : Word × Option Bool) : (s.putShift rd x).lrUsr = s.lrUsr := rfl
@[simp] theorem State.putShift_lrSwi (s : State) (rd : Reg) (x : Word × Option Bool) : (s.putShift rd x).lrSwi = s.lrSwi := rfl
@[simp] theorem State.putShift_lrIrq (s : State) (rd : Reg) (x : Word × Option Bool) : (s.putShift rd x).lrIrq = s.lrIrq := rfl
@[simp] theorem State.putShift_cpsr (s : State) (rd : Reg) (x : Word × Option Bool) : (s.putShift rd x).cpsr = setShiftFlags x s.cpsr := rfl
@[simp] theorem State.putShift_spsrSwi (s : State) (rd : Reg) (x : Word × Option Bool) : (s.putShift rd x).spsrSwi = s.spsrSwi := rfl
@[simp] theorem State.putShift_spsrIrq (s : State) (rd : Reg) (x : Word × Option Bool) : (s.putShift rd x).spsrIrq = s.spsrIrq := rfl
@[simp] theorem State.putShift_mem (s : State) (rd : Reg) (x : Word × Option Bool) : (s.putShift rd x).mem = s.mem := rfl
@[simp] theorem State.putShift_devState (s : State) (rd : Reg) (x : Word × Option Bool) : (s.putShift rd x).devState = s.devState := rfl
@[simp] theorem State.putShift_boundary (s : State) (rd : Reg) (x : Word × Option Bool) : (s.putShift rd x).boundary = s.boundary := rfl
@[simp] theorem State.putShift_readMem (s : State) (rd : Reg) (x : Word × Option Bool) (k : Word) : (s.putShift rd x).readMem k = s.readMem k := rfl

/-! ## `State.branchTo` -/

@[simp] theorem State.branchTo_regs (s : State) (a : Word) : (s.branchTo a).regs = s.regs := rfl
@[simp] theorem State.branchTo_pc (s : State) (a : Word) : (s.branchTo a).pc = a := rfl
@[simp] theorem State.branchTo_spUsr (s : State) (a : Word) : (s.branchTo a).spUsr = s.spUsr := rfl
@[simp] theorem State.branchTo_spIrq (s : State) (a : Word) : (s.branchTo a).spIrq = s.spIrq := rfl
@[simp] theorem State.branchTo_lrUsr (s : State) (a : Word) : (s.branchTo a).lrUsr = s.lrUsr := rfl
@[simp] theorem State.branchTo_lrSwi (s : State) (a : Word) : (s.branchTo a).lrSwi = s.lrSwi := rfl
@[simp] theorem State.branchTo_lrIrq (s : State) (a : Word) : (s.branchTo a).lrIrq = s.lrIrq := rfl
@[simp] theorem State.branchTo_cpsr (s : State) (a : Word) : (s.branchTo a).cpsr = s.cpsr := rfl
@[simp] theorem State.branchTo_spsrSwi (s : State) (a : Word) : (s.branchTo a).spsrSwi = s.spsrSwi := rfl
@[simp] theorem State.branchTo_spsrIrq (s : State) (a : Word) : (s.branchTo a).spsrIrq = s.spsrIrq := rfl
@[simp] theorem State.branchTo_mem (s : State) (a : Word) : (s.branchTo a).mem = s.mem := rfl
@[simp] theorem State.branchTo_devState (s : State) (a : Word) : (s.branchTo a).devState = s.devState := rfl
@[simp] theorem State.branchTo_boundary (s : State) (a : Word) : (s.branchTo a).boundary = s.boundary := rfl
@[simp] theorem State.branchTo_getReg (s : State) (a : Word) (q : Reg) : (s.branchTo a).getReg q = s.getReg q := rfl
@[simp] theorem State.branchTo_readMem (s : State) (a : Word) (k : Word) : (s.branchTo a).readMem k = s.readMem k := rfl
@[simp] theorem State.branchTo_sp (s : State) (a : Word) : (s.branchTo a).sp = s.sp := rfl
@[simp] theorem State.branchTo_lr (s : State) (a : Word) : (s.branchTo a).lr = s.lr := rfl
@[simp] theorem State.branchTo_spsr (s : State) (a : Word) : (s.branchTo a).spsr = s.spsr := rfl

/-! ## `State.advancePc` -/

@[simp] theorem State.advancePc_regs (s : State) : s.advancePc.regs = s.regs := rfl
@[simp] theorem State.advancePc_pc (s : State) : s.advancePc.pc = s.pc + 1#16 := rfl
@[simp] theorem State.advancePc_spUsr (s : State) : s.advancePc.spUsr = s.spUsr := rfl
@[simp] theorem State.advancePc_spIrq (s : State) : s.advancePc.spIrq = s.spIrq := rfl
@[simp] theorem State.advancePc_lrUsr (s : State) : s.advancePc.lrUsr = s.lrUsr := rfl
@[simp] theorem State.advancePc_lrSwi (s : State) : s.advancePc.lrSwi = s.lrSwi := rfl
@[simp] theorem State.advancePc_lrIrq (s : State) : s.advancePc.lrIrq = s.lrIrq := rfl
@[simp] theorem State.advancePc_cpsr (s : State) : s.advancePc.cpsr = s.cpsr := rfl
@[simp] theorem State.advancePc_spsrSwi (s : State) : s.advancePc.spsrSwi = s.spsrSwi := rfl
@[simp] theorem State.advancePc_spsrIrq (s : State) : s.advancePc.spsrIrq = s.spsrIrq := rfl
@[simp] theorem State.advancePc_mem (s : State) : s.advancePc.mem = s.mem := rfl
@[simp] theorem State.advancePc_devState (s : State) : s.advancePc.devState = s.devState := rfl
@[simp] theorem State.advancePc_boundary (s : State) : s.advancePc.boundary = s.boundary := rfl
@[simp] theorem State.advancePc_getReg (s : State) (q : Reg) : s.advancePc.getReg q = s.getReg q := rfl
@[simp] theorem State.advancePc_readMem (s : State) (k : Word) : s.advancePc.readMem k = s.readMem k := rfl
@[simp] theorem State.advancePc_sp (s : State) : s.advancePc.sp = s.sp := rfl
@[simp] theorem State.advancePc_lr (s : State) : s.advancePc.lr = s.lr := rfl
@[simp] theorem State.advancePc_spsr (s : State) : s.advancePc.spsr = s.spsr := rfl

/-! ## `State.enterSwi` -/

@[simp] theorem State.enterSwi_regs (s : State) : s.enterSwi.regs = s.regs := rfl
@[simp] theorem State.enterSwi_pc (s : State) : s.enterSwi.pc = Config.swiVector := rfl
@[simp] theorem State.enterSwi_spUsr (s : State) : s.enterSwi.spUsr = s.spUsr := rfl
@[simp] theorem State.enterSwi_spIrq (s : State) : s.enterSwi.spIrq = s.spIrq := rfl
@[simp] theorem State.enterSwi_lrUsr (s : State) : s.enterSwi.lrUsr = s.lrUsr := rfl
@[simp] theorem State.enterSwi_lrSwi (s : State) : s.enterSwi.lrSwi = s.pc := rfl
@[simp] theorem State.enterSwi_lrIrq (s : State) : s.enterSwi.lrIrq = s.lrIrq := rfl
@[simp] theorem State.enterSwi_cpsr (s : State) : s.enterSwi.cpsr = Config.swiCpsr := rfl
@[simp] theorem State.enterSwi_spsrSwi (s : State) : s.enterSwi.spsrSwi = s.cpsr.toWord := rfl
@[simp] theorem State.enterSwi_spsrIrq (s : State) : s.enterSwi.spsrIrq = s.spsrIrq := rfl
@[simp] theorem State.enterSwi_mem (s : State) : s.enterSwi.mem = s.mem := rfl
@[simp] theorem State.enterSwi_devState (s : State) : s.enterSwi.devState = s.devState := rfl
@[simp] theorem State.enterSwi_boundary (s : State) : s.enterSwi.boundary = s.boundary := rfl
@[simp] theorem State.enterSwi_getReg (s : State) (q : Reg) : s.enterSwi.getReg q = s.getReg q := rfl
@[simp] theorem State.enterSwi_readMem (s : State) (k : Word) : s.enterSwi.readMem k = s.readMem k := rfl

/-! ## `State.enterIrq` -/

@[simp] theorem State.enterIrq_regs (s : State) (msg : Word) : (s.enterIrq msg).regs = s.regs.set .r0 msg := rfl
@[simp] theorem State.enterIrq_pc (s : State) (msg : Word) : (s.enterIrq msg).pc = Config.irqVector := rfl
@[simp] theorem State.enterIrq_spUsr (s : State) (msg : Word) : (s.enterIrq msg).spUsr = s.spUsr := rfl
@[simp] theorem State.enterIrq_spIrq (s : State) (msg : Word) : (s.enterIrq msg).spIrq = s.spIrq - 1#16 := rfl
@[simp] theorem State.enterIrq_lrUsr (s : State) (msg : Word) : (s.enterIrq msg).lrUsr = s.lrUsr := rfl
@[simp] theorem State.enterIrq_lrSwi (s : State) (msg : Word) : (s.enterIrq msg).lrSwi = s.lrSwi := rfl
@[simp] theorem State.enterIrq_lrIrq (s : State) (msg : Word) : (s.enterIrq msg).lrIrq = s.pc := rfl
@[simp] theorem State.enterIrq_cpsr (s : State) (msg : Word) : (s.enterIrq msg).cpsr = Config.irqCpsr := rfl
@[simp] theorem State.enterIrq_spsrSwi (s : State) (msg : Word) : (s.enterIrq msg).spsrSwi = s.spsrSwi := rfl
@[simp] theorem State.enterIrq_spsrIrq (s : State) (msg : Word) : (s.enterIrq msg).spsrIrq = s.cpsr.toWord := rfl
@[simp] theorem State.enterIrq_mem (s : State) (msg : Word) : (s.enterIrq msg).mem = s.mem.write (s.spIrq - 1#16) (s.getReg .r0) := rfl
@[simp] theorem State.enterIrq_devState (s : State) (msg : Word) : (s.enterIrq msg).devState = s.devState := rfl
@[simp] theorem State.enterIrq_boundary (s : State) (msg : Word) : (s.enterIrq msg).boundary = s.boundary := rfl

/-! ## `State.applyHwi` -/

@[simp] theorem State.applyHwi_regs (s : State) (e : HwiEffect) : (s.applyHwi e).regs = e.regs := rfl
@[simp] theorem State.applyHwi_pc (s : State) (e : HwiEffect) : (s.applyHwi e).pc = s.pc := rfl
@[simp] theorem State.applyHwi_spUsr (s : State) (e : HwiEffect) : (s.applyHwi e).spUsr = s.spUsr := rfl
@[simp] theorem State.applyHwi_spIrq (s : State) (e : HwiEffect) : (s.applyHwi e).spIrq = s.spIrq := rfl
@[simp] theorem State.applyHwi_lrUsr (s : State) (e : HwiEffect) : (s.applyHwi e).lrUsr = s.lrUsr := rfl
@[simp] theorem State.applyHwi_lrSwi (s : State) (e : HwiEffect) : (s.applyHwi e).lrSwi = s.lrSwi := rfl
@[simp] theorem State.applyHwi_lrIrq (s : State) (e : HwiEffect) : (s.applyHwi e).lrIrq = s.lrIrq := rfl
@[simp] theorem State.applyHwi_cpsr (s : State) (e : HwiEffect) : (s.applyHwi e).cpsr = s.cpsr := rfl
@[simp] theorem State.applyHwi_spsrSwi (s : State) (e : HwiEffect) : (s.applyHwi e).spsrSwi = s.spsrSwi := rfl
@[simp] theorem State.applyHwi_spsrIrq (s : State) (e : HwiEffect) : (s.applyHwi e).spsrIrq = s.spsrIrq := rfl
@[simp] theorem State.applyHwi_mem (s : State) (e : HwiEffect) : (s.applyHwi e).mem = s.mem.writeAll e.writes := rfl
@[simp] theorem State.applyHwi_devState (s : State) (e : HwiEffect) : (s.applyHwi e).devState = e.devState := rfl
@[simp] theorem State.applyHwi_boundary (s : State) (e : HwiEffect) : (s.applyHwi e).boundary = s.boundary := rfl
@[simp] theorem State.applyHwi_sp (s : State) (e : HwiEffect) : (s.applyHwi e).sp = s.sp := rfl
@[simp] theorem State.applyHwi_lr (s : State) (e : HwiEffect) : (s.applyHwi e).lr = s.lr := rfl
@[simp] theorem State.applyHwi_spsr (s : State) (e : HwiEffect) : (s.applyHwi e).spsr = s.spsr := rfl

/-! ## `State.afterTick` -/

@[simp] theorem State.afterTick_regs (s : State) (d : DeviceTick) : (s.afterTick d).regs = s.regs := rfl
@[simp] theorem State.afterTick_pc (s : State) (d : DeviceTick) : (s.afterTick d).pc = s.pc := rfl
@[simp] theorem State.afterTick_spUsr (s : State) (d : DeviceTick) : (s.afterTick d).spUsr = s.spUsr := rfl
@[simp] theorem State.afterTick_spIrq (s : State) (d : DeviceTick) : (s.afterTick d).spIrq = s.spIrq := rfl
@[simp] theorem State.afterTick_lrUsr (s : State) (d : DeviceTick) : (s.afterTick d).lrUsr = s.lrUsr := rfl
@[simp] theorem State.afterTick_lrSwi (s : State) (d : DeviceTick) : (s.afterTick d).lrSwi = s.lrSwi := rfl
@[simp] theorem State.afterTick_lrIrq (s : State) (d : DeviceTick) : (s.afterTick d).lrIrq = s.lrIrq := rfl
@[simp] theorem State.afterTick_cpsr (s : State) (d : DeviceTick) : (s.afterTick d).cpsr = s.cpsr := rfl
@[simp] theorem State.afterTick_spsrSwi (s : State) (d : DeviceTick) : (s.afterTick d).spsrSwi = s.spsrSwi := rfl
@[simp] theorem State.afterTick_spsrIrq (s : State) (d : DeviceTick) : (s.afterTick d).spsrIrq = s.spsrIrq := rfl
@[simp] theorem State.afterTick_mem (s : State) (d : DeviceTick) : (s.afterTick d).mem = s.mem.writeAll d.writes := rfl
@[simp] theorem State.afterTick_devState (s : State) (d : DeviceTick) : (s.afterTick d).devState = d.devState := rfl
@[simp] theorem State.afterTick_boundary (s : State) (d : DeviceTick) : (s.afterTick d).boundary = false := rfl
@[simp] theorem State.afterTick_getReg (s : State) (d : DeviceTick) (q : Reg) : (s.afterTick d).getReg q = s.getReg q := rfl
@[simp] theorem State.afterTick_sp (s : State) (d : DeviceTick) : (s.afterTick d).sp = s.sp := rfl
@[simp] theorem State.afterTick_lr (s : State) (d : DeviceTick) : (s.afterTick d).lr = s.lr := rfl
@[simp] theorem State.afterTick_spsr (s : State) (d : DeviceTick) : (s.afterTick d).spsr = s.spsr := rfl

/-! ## `State.takeOffer` -/

@[simp] theorem State.takeOffer_regs (s : State) (o : IrqOffer) : (s.takeOffer o).regs = s.regs.set .r0 o.message := rfl
@[simp] theorem State.takeOffer_pc (s : State) (o : IrqOffer) : (s.takeOffer o).pc = Config.irqVector := rfl
@[simp] theorem State.takeOffer_spUsr (s : State) (o : IrqOffer) : (s.takeOffer o).spUsr = s.spUsr := rfl
@[simp] theorem State.takeOffer_spIrq (s : State) (o : IrqOffer) : (s.takeOffer o).spIrq = s.spIrq - 1#16 := rfl
@[simp] theorem State.takeOffer_lrUsr (s : State) (o : IrqOffer) : (s.takeOffer o).lrUsr = s.lrUsr := rfl
@[simp] theorem State.takeOffer_lrSwi (s : State) (o : IrqOffer) : (s.takeOffer o).lrSwi = s.lrSwi := rfl
@[simp] theorem State.takeOffer_lrIrq (s : State) (o : IrqOffer) : (s.takeOffer o).lrIrq = s.pc := rfl
@[simp] theorem State.takeOffer_cpsr (s : State) (o : IrqOffer) : (s.takeOffer o).cpsr = Config.irqCpsr := rfl
@[simp] theorem State.takeOffer_spsrSwi (s : State) (o : IrqOffer) : (s.takeOffer o).spsrSwi = s.spsrSwi := rfl
@[simp] theorem State.takeOffer_spsrIrq (s : State) (o : IrqOffer) : (s.takeOffer o).spsrIrq = s.cpsr.toWord := rfl
@[simp] theorem State.takeOffer_mem (s : State) (o : IrqOffer) : (s.takeOffer o).mem = s.mem.write (s.spIrq - 1#16) (s.getReg .r0) := rfl
@[simp] theorem State.takeOffer_devState (s : State) (o : IrqOffer) : (s.takeOffer o).devState = o.taken := rfl
@[simp] theorem State.takeOffer_boundary (s : State) (o : IrqOffer) : (s.takeOffer o).boundary = s.boundary := rfl

/-! ## `State.endStep` -/

@[simp] theorem State.endStep_regs (s : State) : s.endStep.regs = s.regs := rfl
@[simp] theorem State.endStep_pc (s : State) : s.endStep.pc = s.pc := rfl
@[simp] theorem State.endStep_spUsr (s : State) : s.endStep.spUsr = s.spUsr := rfl
@[simp] theorem State.endStep_spIrq (s : State) : s.endStep.spIrq = s.spIrq := rfl
@[simp] theorem State.endStep_lrUsr (s : State) : s.endStep.lrUsr = s.lrUsr := rfl
@[simp] theorem State.endStep_lrSwi (s : State) : s.endStep.lrSwi = s.lrSwi := rfl
@[simp] theorem State.endStep_lrIrq (s : State) : s.endStep.lrIrq = s.lrIrq := rfl
@[simp] theorem State.endStep_cpsr (s : State) : s.endStep.cpsr = s.cpsr := rfl
@[simp] theorem State.endStep_spsrSwi (s : State) : s.endStep.spsrSwi = s.spsrSwi := rfl
@[simp] theorem State.endStep_spsrIrq (s : State) : s.endStep.spsrIrq = s.spsrIrq := rfl
@[simp] theorem State.endStep_mem (s : State) : s.endStep.mem = s.mem := rfl
@[simp] theorem State.endStep_devState (s : State) : s.endStep.devState = s.devState := rfl
@[simp] theorem State.endStep_boundary (s : State) : s.endStep.boundary = true := rfl
@[simp] theorem State.endStep_getReg (s : State) (q : Reg) : s.endStep.getReg q = s.getReg q := rfl
@[simp] theorem State.endStep_readMem (s : State) (k : Word) : s.endStep.readMem k = s.readMem k := rfl
@[simp] theorem State.endStep_sp (s : State) : s.endStep.sp = s.sp := rfl
@[simp] theorem State.endStep_lr (s : State) : s.endStep.lr = s.lr := rfl
@[simp] theorem State.endStep_spsr (s : State) : s.endStep.spsr = s.spsr := rfl

@[simp] theorem State.setReg_getReg (s : State) (r q : Reg) (v : Word) :
    (s.setReg r v).getReg q = if q = r then v else s.getReg q := Regs.get_set ..

@[simp] theorem State.putSum_getReg (s : State) (rd q : Reg) (x : AddResult) :
    (s.putSum rd x).getReg q = if q = rd then x.result else s.getReg q := Regs.get_set ..

@[simp] theorem State.putLogic_getReg (s : State) (rd q : Reg) (v : Word) :
    (s.putLogic rd v).getReg q = if q = rd then v else s.getReg q := Regs.get_set ..

@[simp] theorem State.putShift_getReg (s : State) (rd q : Reg) (x : Word × Option Bool) :
    (s.putShift rd x).getReg q = if q = rd then x.1 else s.getReg q := Regs.get_set ..

@[simp] theorem State.takeOffer_getReg (s : State) (o : IrqOffer) (q : Reg) :
    (s.takeOffer o).getReg q = if q = .r0 then o.message else s.getReg q := Regs.get_set ..

@[simp] theorem State.enterIrq_getReg (s : State) (msg : Word) (q : Reg) :
    (s.enterIrq msg).getReg q = if q = .r0 then msg else s.getReg q := Regs.get_set ..

/-! ## `State.setSp`, by the current mode -/

@[simp] theorem State.setSp_regs (s : State) (v : Word) : (s.setSp v).regs = s.regs := by
  unfold State.setSp; split <;> rfl
@[simp] theorem State.setSp_pc (s : State) (v : Word) : (s.setSp v).pc = s.pc := by
  unfold State.setSp; split <;> rfl
@[simp] theorem State.setSp_lrUsr (s : State) (v : Word) : (s.setSp v).lrUsr = s.lrUsr := by
  unfold State.setSp; split <;> rfl
@[simp] theorem State.setSp_lrSwi (s : State) (v : Word) : (s.setSp v).lrSwi = s.lrSwi := by
  unfold State.setSp; split <;> rfl
@[simp] theorem State.setSp_lrIrq (s : State) (v : Word) : (s.setSp v).lrIrq = s.lrIrq := by
  unfold State.setSp; split <;> rfl
@[simp] theorem State.setSp_cpsr (s : State) (v : Word) : (s.setSp v).cpsr = s.cpsr := by
  unfold State.setSp; split <;> rfl
@[simp] theorem State.setSp_spsrSwi (s : State) (v : Word) : (s.setSp v).spsrSwi = s.spsrSwi := by
  unfold State.setSp; split <;> rfl
@[simp] theorem State.setSp_spsrIrq (s : State) (v : Word) : (s.setSp v).spsrIrq = s.spsrIrq := by
  unfold State.setSp; split <;> rfl
@[simp] theorem State.setSp_mem (s : State) (v : Word) : (s.setSp v).mem = s.mem := by
  unfold State.setSp; split <;> rfl
@[simp] theorem State.setSp_devState (s : State) (v : Word) : (s.setSp v).devState = s.devState := by
  unfold State.setSp; split <;> rfl
@[simp] theorem State.setSp_boundary (s : State) (v : Word) : (s.setSp v).boundary = s.boundary := by
  unfold State.setSp; split <;> rfl
@[simp] theorem State.setSp_spUsr (s : State) (v : Word) :
    (s.setSp v).spUsr = if s.cpsr.m = .irq then s.spUsr else v := by
  unfold State.setSp; split <;> simp_all
@[simp] theorem State.setSp_spIrq (s : State) (v : Word) :
    (s.setSp v).spIrq = if s.cpsr.m = .irq then v else s.spIrq := by
  unfold State.setSp; split <;> simp_all
@[simp] theorem State.setSp_getReg (s : State) (v : Word) (q : Reg) : (s.setSp v).getReg q = s.getReg q := by
  simp [State.getReg]
@[simp] theorem State.setSp_readMem (s : State) (v k : Word) : (s.setSp v).readMem k = s.readMem k := by
  simp [State.readMem]
@[simp] theorem State.setSp_sp (s : State) (v : Word) : (s.setSp v).sp = v := by
  unfold State.setSp State.sp; cases h : s.cpsr.m <;> simp [h]
@[simp] theorem State.setSp_lr (s : State) (v : Word) : (s.setSp v).lr = s.lr := by
  unfold State.setSp State.lr; cases h : s.cpsr.m <;> simp [h]
@[simp] theorem State.setSp_spsr (s : State) (v : Word) : (s.setSp v).spsr = s.spsr := by
  unfold State.setSp State.spsr; cases h : s.cpsr.m <;> simp [h]

/-! ## `State.setLr`, by the current mode -/

@[simp] theorem State.setLr_regs (s : State) (v : Word) : (s.setLr v).regs = s.regs := by
  unfold State.setLr; split <;> rfl
@[simp] theorem State.setLr_pc (s : State) (v : Word) : (s.setLr v).pc = s.pc := by
  unfold State.setLr; split <;> rfl
@[simp] theorem State.setLr_spUsr (s : State) (v : Word) : (s.setLr v).spUsr = s.spUsr := by
  unfold State.setLr; split <;> rfl
@[simp] theorem State.setLr_spIrq (s : State) (v : Word) : (s.setLr v).spIrq = s.spIrq := by
  unfold State.setLr; split <;> rfl
@[simp] theorem State.setLr_cpsr (s : State) (v : Word) : (s.setLr v).cpsr = s.cpsr := by
  unfold State.setLr; split <;> rfl
@[simp] theorem State.setLr_spsrSwi (s : State) (v : Word) : (s.setLr v).spsrSwi = s.spsrSwi := by
  unfold State.setLr; split <;> rfl
@[simp] theorem State.setLr_spsrIrq (s : State) (v : Word) : (s.setLr v).spsrIrq = s.spsrIrq := by
  unfold State.setLr; split <;> rfl
@[simp] theorem State.setLr_mem (s : State) (v : Word) : (s.setLr v).mem = s.mem := by
  unfold State.setLr; split <;> rfl
@[simp] theorem State.setLr_devState (s : State) (v : Word) : (s.setLr v).devState = s.devState := by
  unfold State.setLr; split <;> rfl
@[simp] theorem State.setLr_boundary (s : State) (v : Word) : (s.setLr v).boundary = s.boundary := by
  unfold State.setLr; split <;> rfl
@[simp] theorem State.setLr_lrUsr (s : State) (v : Word) :
    (s.setLr v).lrUsr = if s.cpsr.m = .user then v else s.lrUsr := by
  unfold State.setLr; split <;> simp_all
@[simp] theorem State.setLr_lrSwi (s : State) (v : Word) :
    (s.setLr v).lrSwi = if s.cpsr.m = .swi then v else s.lrSwi := by
  unfold State.setLr; split <;> simp_all
@[simp] theorem State.setLr_lrIrq (s : State) (v : Word) :
    (s.setLr v).lrIrq = if s.cpsr.m = .irq then v else s.lrIrq := by
  unfold State.setLr; split <;> simp_all
@[simp] theorem State.setLr_getReg (s : State) (v : Word) (q : Reg) : (s.setLr v).getReg q = s.getReg q := by
  simp [State.getReg]
@[simp] theorem State.setLr_readMem (s : State) (v k : Word) : (s.setLr v).readMem k = s.readMem k := by
  simp [State.readMem]
@[simp] theorem State.setLr_lr (s : State) (v : Word) : (s.setLr v).lr = v := by
  unfold State.setLr State.lr; cases h : s.cpsr.m <;> simp [h]
@[simp] theorem State.setLr_sp (s : State) (v : Word) : (s.setLr v).sp = s.sp := by
  unfold State.setLr State.sp; cases h : s.cpsr.m <;> simp [h]
@[simp] theorem State.setLr_spsr (s : State) (v : Word) : (s.setLr v).spsr = s.spsr := by
  unfold State.setLr State.spsr; cases h : s.cpsr.m <;> simp [h]

/-! ## Reset -/

theorem State.reset_pc : State.reset.pc = Config.resetPc := rfl
theorem State.reset_boundary : State.reset.boundary = false := rfl
theorem State.reset_devState : State.reset.devState = [] := rfl
theorem State.reset_mem : State.reset.mem = [] := rfl

end Sys2Proof.Machine
end

