-- ==== Sys2Proof/Laws/Ops.lean ====
section
/-! SUPPORT. One lemma per shared operation that says what it can do, for the provers to cite instead of unfolding:
the adder, the shifter, the flag rules, register lists, multi-word loads, push and pop, the exceptions and their
returns, the devices. -/

namespace Sys2Proof.Machine

open Sys2Proof.Claims

/-! ## Words as numbers -/

theorem word_eq_zero_iff (v : Word) : v = 0#16 ↔ v.toNat = 0 :=
  ⟨fun h => by simp [h], fun h => BitVec.eq_of_toNat_eq (by simpa using h)⟩

/-- Bit 15 is the sign. -/
theorem bit15_iff_neg (v : Word) : v.getLsbD 15 = true ↔ v.toInt < 0 := by
  rw [← BitVec.msb_eq_getLsbD_last (x := v), BitVec.msb_eq_toInt, decide_eq_true_iff]

theorem toInt_eq (v : Word) : v.toInt = if v.toNat < 32768 then (v.toNat : Int) else (v.toNat : Int) - 65536 := by
  rw [BitVec.toInt_eq_toNat_cond]
  split <;> split <;> omega

theorem toNat_not (v : Word) : (~~~v).toNat = 65535 - v.toNat := by simp [BitVec.toNat_not]

theorem zext_eq {k : Nat} (x : BitVec k) : zext x = BitVec.ofNat 16 x.toNat := by
  apply BitVec.eq_of_toNat_eq; simp [zext]

theorem sext_eq {k : Nat} (x : BitVec k) : sext x = BitVec.ofInt 16 x.toInt := rfl

/-! ## `SetNZ` (R12) -/

theorem setNZ_flagsNZ (v : Word) (p : Cpsr) : FlagsNZ v (setNZ v p) :=
  ⟨bit15_iff_neg v, by simp [setNZ, word_eq_zero_iff]⟩

@[simp] theorem setNZ_c (v : Word) (p : Cpsr) : (setNZ v p).c = p.c := rfl
@[simp] theorem setNZ_v (v : Word) (p : Cpsr) : (setNZ v p).v = p.v := rfl
@[simp] theorem setNZ_i (v : Word) (p : Cpsr) : (setNZ v p).i = p.i := rfl
@[simp] theorem setNZ_m (v : Word) (p : Cpsr) : (setNZ v p).m = p.m := rfl
@[simp] theorem setNZCV_i (r : AddResult) (p : Cpsr) : (setNZCV r p).i = p.i := rfl
@[simp] theorem setNZCV_m (r : AddResult) (p : Cpsr) : (setNZCV r p).m = p.m := rfl
@[simp] theorem setNZCV_c (r : AddResult) (p : Cpsr) : (setNZCV r p).c = r.carry := rfl
@[simp] theorem setNZCV_v (r : AddResult) (p : Cpsr) : (setNZCV r p).v = r.overflow := rfl
@[simp] theorem setShiftFlags_i (r : Word × Option Bool) (p : Cpsr) : (setShiftFlags r p).i = p.i := rfl
@[simp] theorem setShiftFlags_m (r : Word × Option Bool) (p : Cpsr) : (setShiftFlags r p).m = p.m := rfl
@[simp] theorem setShiftFlags_v (r : Word × Option Bool) (p : Cpsr) : (setShiftFlags r p).v = p.v := rfl

theorem setNZ_isLogic (v : Word) (p : Cpsr) : IsLogic v p (setNZ v p) := ⟨setNZ_flagsNZ v p, rfl, rfl⟩

theorem setShiftFlags_flagsNZ (r : Word × Option Bool) (p : Cpsr) : FlagsNZ r.1 (setShiftFlags r p) :=
  setNZ_flagsNZ r.1 p

/-! ## The adder (R11) -/

theorem bit_eq_toNat (c : Bool) : bit c = c.toNat := by cases c <;> rfl

/-- `AddWithCarry(a, b, cin)` is the sum `a + b + cin` with the flags of a sum. -/
theorem addWithCarry_isSum (a b : Word) (cin : Bool) (p : Cpsr) :
    IsSum a b cin (addWithCarry a b cin).result (setNZCV (addWithCarry a b cin) p) := by
  have hn := setNZ_flagsNZ (addWithCarry a b cin).result p
  refine ⟨?_, ⟨hn.1, hn.2⟩, ?_, ?_⟩
  · simp [addWithCarry, bit_eq_toNat]
  · simp [addWithCarry, bit_eq_toNat]
  · simp only [setNZCV_v, addWithCarry, decide_eq_true_iff, toInt_eq, BitVec.toNat_ofNat, bit_eq_toNat]
    have ha := a.isLt
    have hb := b.isLt
    have hc : cin.toNat ≤ 1 := by cases cin <;> simp
    split <;> split <;> split <;> omega

/-- `AddWithCarry(a, NOT b, cin)` is the difference `a - b - (1 - cin)` with the flags of a difference. -/
theorem addWithCarry_not_isDifference (a b : Word) (cin : Bool) (p : Cpsr) :
    IsDifference a b (!cin) (addWithCarry a (~~~b) cin).result (setNZCV (addWithCarry a (~~~b) cin) p) := by
  have hn := setNZ_flagsNZ (addWithCarry a (~~~b) cin).result p
  have ha := a.isLt
  have hb := b.isLt
  have hbit : bit (!cin) + cin.toNat = 1 := by cases cin <;> rfl
  refine ⟨?_, ⟨hn.1, hn.2⟩, ?_, ?_⟩
  · simp only [addWithCarry, BitVec.toNat_ofNat, toNat_not]
    omega
  · simp only [setNZCV_c, addWithCarry, decide_eq_true_iff, toNat_not]
    omega
  · simp only [setNZCV_v, addWithCarry, decide_eq_true_iff, toInt_eq, BitVec.toNat_ofNat, toNat_not]
    split <;> split <;> split <;> split <;> omega

/-! ## Register lists (R109, R267) -/

theorem listedRegs_nodup (rlist : BitVec 8) : (listedRegs rlist).Nodup := List.Nodup.filter _ (by decide)

theorem listedRegs_length_le (rlist : BitVec 8) : (listedRegs rlist).length ≤ 8 := List.length_filter_le _ allRegs

@[simp] theorem State.getRegs_length (s : State) (rs : List Reg) : (s.getRegs rs).length = rs.length :=
  List.length_map ..

@[simp] theorem State.getRegs_getElem (s : State) (rs : List Reg) (k : Nat) (h : k < (s.getRegs rs).length) :
    (s.getRegs rs)[k] = s.getReg (rs[k]'(by simpa using h)) := List.getElem_map ..

/-! ## Multi-word loads (R68, R78, R273) -/

theorem Regs.get_loadWords_of_notMem (g : Regs) (m : Memory) (a : Word) (rs : List Reg) (q : Reg) (h : q ∉ rs) :
    (g.loadWords m a rs).get q = g.get q := by
  induction rs generalizing g a with
  | nil => rfl
  | cons r rest ih =>
    simp only [List.mem_cons, not_or] at h
    simp [ih _ _ h.2, h.1]

/-- Register `k` of a multi-word load with no register twice. -/
theorem Regs.get_loadWords (g : Regs) (m : Memory) (a : Word) (rs : List Reg) (hn : rs.Nodup) (k : Nat)
    (hk : k < rs.length) : (g.loadWords m a rs).get rs[k] = m.read (a + BitVec.ofNat 16 k) := by
  induction rs generalizing g a k with
  | nil => simp at hk
  | cons r rest ih =>
    obtain ⟨hr, hn⟩ := List.nodup_cons.mp hn
    cases k with
    | zero => simp [Regs.get_loadWords_of_notMem _ _ _ _ _ hr]
    | succ j =>
      have hj : j < rest.length := by simpa using hk
      rw [← add_one_add_ofNat a j]
      exact ih _ _ hn j hj

theorem Regs.get_setAll_of_notMem (g : Regs) (ws : List (Reg × Word)) (q : Reg) (h : q ∉ ws.map Prod.fst) :
    (g.setAll ws).get q = g.get q := by
  induction ws generalizing g with
  | nil => rfl
  | cons e rest ih =>
    simp only [List.map_cons, List.mem_cons, not_or] at h
    simp [Regs.setAll, ih _ h.2, h.1]

/-! ## Push and pop (R266 to R269) -/

/-- What a push leaves: the new stack pointer, the stored words, everything else. -/
theorem State.pushWords_spec (s : State) (vs : List Word) (hlen : vs.length < 65536) :
    (s.pushWords vs).sp = s.sp - BitVec.ofNat 16 vs.length ∧
      (∀ (k : Nat) (h : k < vs.length),
        (s.pushWords vs).readMem (s.sp - BitVec.ofNat 16 vs.length + BitVec.ofNat 16 k) = vs[k]) ∧
      KeepsOtherSp s (s.pushWords vs) ∧
      StoreFrame [] (s.sp - BitVec.ofNat 16 vs.length) vs.length
        { s with spUsr := (s.pushWords vs).spUsr, spIrq := (s.pushWords vs).spIrq } (s.pushWords vs) := by
  refine ⟨by simp [State.pushWords], ?_, ?_, ?_⟩
  · intro k h
    simp only [State.pushWords, State.setSp_readMem]
    exact Memory.read_storeWords _ _ _ hlen k h
  · constructor <;> intro h <;> simp [State.pushWords, h]
  · refine ⟨fun r _ => by simp [State.pushWords, State.getReg], ?_, ⟨rfl, rfl⟩, by simp [State.pushWords, KeepsLr],
      by simp [State.pushWords, KeepsSpsr], by simp [State.pushWords], by simp [State.pushWords, KeepsDevices],
      by simp [State.pushWords]⟩
    intro b hb
    simp only [State.pushWords, State.setSp_readMem]
    exact Memory.read_storeWords_of_forall_ne _ _ _ _ hb

@[simp] theorem State.pushWords_mem (s : State) (vs : List Word) :
    (s.pushWords vs).mem = s.mem.storeWords (s.sp - BitVec.ofNat 16 vs.length) vs := by
  simp [State.pushWords]

/-- What a pop of registers leaves: the new stack pointer, the loaded registers, everything else. -/
theorem State.popRegs_spec (s : State) (rs : List Reg) (hn : rs.Nodup) :
    (s.popRegs rs).sp = s.sp + BitVec.ofNat 16 rs.length ∧
      (∀ (k : Nat) (h : k < rs.length), (s.popRegs rs).getReg rs[k] = s.readMem (s.sp + BitVec.ofNat 16 k)) ∧
      KeepsOtherSp s (s.popRegs rs) ∧
      LoadFrame rs { s with spUsr := (s.popRegs rs).spUsr, spIrq := (s.popRegs rs).spIrq } (s.popRegs rs) := by
  refine ⟨by simp [State.popRegs], ?_, ?_, ?_⟩
  · intro k h
    simp only [State.popRegs, State.setSp_getReg]
    exact Regs.get_loadWords _ _ _ _ hn k h
  · constructor <;> intro h <;> simp [State.popRegs, h]
  · refine ⟨?_, fun a => by simp [State.popRegs, State.readMem], ⟨rfl, rfl⟩, by simp [State.popRegs, KeepsLr],
      by simp [State.popRegs, KeepsSpsr], by simp [State.popRegs], by simp [State.popRegs, KeepsDevices],
      by simp [State.popRegs]⟩
    intro r hr
    simp only [State.popRegs, State.setSp_getReg]
    exact Regs.get_loadWords_of_notMem _ _ _ _ _ hr

@[simp] theorem State.popRegs_mem (s : State) (rs : List Reg) : (s.popRegs rs).mem = s.mem := by
  simp [State.popRegs]

/-! ## Faults, exceptions and returns (R13, R211, R212, R341) -/

theorem State.raiseIllegal_ne_next (s t : State) : s.raiseIllegal ≠ .next t := by simp [State.raiseIllegal]

theorem State.raiseIllegal_ne_refused (s : State) (r : Refusal) : s.raiseIllegal ≠ .refused r := by
  simp [State.raiseIllegal]

/-- The mode a code names. -/
theorem modeOfCode_eq_some_iff (b : BitVec 5) (m : Mode) : modeOfCode b = some m ↔ b = Config.modeCode m := by
  cases m <;> simp only [modeOfCode] <;> (repeat' split) <;> simp_all [Config.modeCode]

/-- Everything `RSI` can do when it completes. -/
theorem State.returnFromSwi_eq_next_iff (s t : State) :
    s.returnFromSwi = .next t ↔ ∃ p, Cpsr.ofWord s.spsrSwi = some p ∧ t = { s with cpsr := p, pc := s.lrSwi } := by
  unfold State.returnFromSwi
  cases h : Cpsr.ofWord s.spsrSwi <;> simp [eq_comm]

/-- Everything `RFI` can do when it completes. -/
theorem State.returnFromIrq_eq_next_iff (s t : State) :
    s.returnFromIrq = .next t ↔ ∃ p, Cpsr.ofWord s.spsrIrq = some p ∧
      t = { s with
            regs := s.regs.set .r0 (s.readMem s.spIrq)
            spIrq := s.spIrq + 1#16
            cpsr := p
            pc := s.lrIrq } := by
  unfold State.returnFromIrq
  cases h : Cpsr.ofWord s.spsrIrq <;> simp [eq_comm]

/-- Everything a write of `SPSR` can do. -/
theorem State.setSpsr_eq_some_iff (s t : State) (v : Word) :
    s.setSpsr v = some t ↔ (s.cpsr.m = .swi ∧ t = { s with spsrSwi := v }) ∨
      (s.cpsr.m = .irq ∧ t = { s with spsrIrq := v }) := by
  unfold State.setSpsr
  cases s.cpsr.m <;> simp [eq_comm]

theorem State.setSpsr_eq_none_iff (s : State) (v : Word) : s.setSpsr v = none ↔ s.cpsr.m = .user := by
  unfold State.setSpsr
  cases s.cpsr.m <;> simp

theorem State.spsr_eq_none_iff (s : State) : s.spsr = none ↔ s.cpsr.m = .user := by
  unfold State.spsr
  cases s.cpsr.m <;> simp

/-- A conditional branch changes the program counter alone. -/
theorem State.branchIf_eq (s : State) (k : Cond) (imm8 : BitVec 8) :
    s.branchIf k imm8 = { s with pc := if condHolds k s.cpsr then s.pc + sext imm8 else s.pc } := by
  unfold State.branchIf State.branchTo
  split <;> rfl

/-! ## Devices (R203, R204) -/

theorem devicePresent_iff (n : Word) : devicePresent n = true ↔ n.toNat < Config.deviceCount.toNat := by
  simp [devicePresent]

/-- Device `$FFFF` is absent: there are at most 65535 devices. -/
theorem devicePresent_last : devicePresent 0xFFFF#16 = false := by
  have := Config.deviceCount.isLt
  simp only [devicePresent, decide_eq_false_iff_not, Nat.not_lt]
  show Config.deviceCount.toNat ≤ 65535
  omega

theorem State.signalDevice_of_absent (s : State) (n : Word) (h : devicePresent n = false) : s.signalDevice n = s := by
  simp [State.signalDevice, h]

theorem State.signalDevice_of_present (s : State) (n : Word) (h : devicePresent n = true) :
    s.signalDevice n = s.applyHwi (Config.hwiEffect n s.regs s.mem s.devState) := by
  simp [State.signalDevice, h]

/-! ## The devices between instructions (R73, R203, R334) -/

@[simp] theorem DeviceTick.quiet_writes (ds : List Word) : (DeviceTick.quiet ds).writes = [] := rfl
@[simp] theorem DeviceTick.quiet_devState (ds : List Word) : (DeviceTick.quiet ds).devState = ds := rfl
@[simp] theorem DeviceTick.quiet_offer (ds : List Word) : (DeviceTick.quiet ds).offer = none := rfl

/-- Where no instruction has come before, the devices do nothing. -/
theorem State.nextTick_of_first (s : State) (h : s.boundary = false) : s.nextTick = DeviceTick.quiet s.devState := by
  simp [State.nextTick, h]

theorem State.afterTick_quiet (s : State) : s.afterTick (DeviceTick.quiet s.devState) = { s with boundary := false } :=
  rfl

@[simp] theorem State.takenInterrupt_quiet (s : State) (ds : List Word) :
    s.takenInterrupt (DeviceTick.quiet ds) = none := by
  simp [State.takenInterrupt]

theorem State.takenInterrupt_of_disabled (s : State) (d : DeviceTick) (h : s.cpsr.i = false) :
    s.takenInterrupt d = none := by
  simp [State.takenInterrupt, h]

theorem State.takenInterrupt_of_enabled (s : State) (d : DeviceTick) (h : s.cpsr.i = true) :
    s.takenInterrupt d = d.offer := by
  simp [State.takenInterrupt, h]

theorem endOutcome_eq_next_iff (r : Result) (t : State) :
    endOutcome r = .next t ↔ ∃ u, r = .next u ∧ t = u.endStep := by
  cases r <;> simp [endOutcome, eq_comm]

theorem endOutcome_eq_fault_iff (r : Result) (f : Fault) : endOutcome r = .fault f ↔ r = .fault f := by
  cases r <;> simp [endOutcome]

/-! ## The step -/

theorem stepWith_of_taken (d : DeviceTick) (s : State) (o : IrqOffer) (h : s.takenInterrupt d = some o) :
    stepWith d s = .next ((s.afterTick d).takeOffer o).endStep := by
  simp [stepWith, h]

theorem stepWith_of_not_taken (d : DeviceTick) (s : State) (h : s.takenInterrupt d = none) :
    stepWith d s = endOutcome (exec (decode (s.afterTick d).fetch) (s.afterTick d).advancePc) := by
  simp [stepWith, h]

/-- Everything a step that completes can do: an interrupt is taken, or the fetched instruction completes. -/
theorem stepWith_eq_next_iff (d : DeviceTick) (s t : State) :
    stepWith d s = .next t ↔
      (∃ o, s.takenInterrupt d = some o ∧ t = ((s.afterTick d).takeOffer o).endStep) ∨
        (s.takenInterrupt d = none ∧
          ∃ u, exec (decode (s.afterTick d).fetch) (s.afterTick d).advancePc = .next u ∧ t = u.endStep) := by
  cases h : s.takenInterrupt d with
  | none => simp [stepWith_of_not_taken d s h, endOutcome_eq_next_iff]
  | some o => simp [stepWith_of_taken d s o h, eq_comm]

end Sys2Proof.Machine
end

