-- ==== Sys2Proof/Laws/PerInstr.lean ====
section
/-! SUPPORT. What holds of each instruction as syntax, one lemma per constructor: its encoding stands in its row of the
opcode table (R93, R128). -/

namespace Sys2Proof.Laws.EncodeInRow

/-- The word of an instruction has the fixed bits of its row, whatever its fields. -/
def Statement (i : Instr) : Prop := encode i &&& rowMask i = rowMatch i

theorem lslImm (rd : Reg) (rs : Reg) (imm5 : BitVec 5) : Statement (.lslImm rd rs imm5) :=
  three_fields 0x0000#16 0xF800#16 imm5 6 rs.num 3 rd.num 0 (by decide) (by decide) (by decide) rfl

theorem lsrImm (rd : Reg) (rs : Reg) (imm5 : BitVec 5) : Statement (.lsrImm rd rs imm5) :=
  three_fields 0x0800#16 0xF800#16 imm5 6 rs.num 3 rd.num 0 (by decide) (by decide) (by decide) rfl

theorem asrImm (rd : Reg) (rs : Reg) (imm5 : BitVec 5) : Statement (.asrImm rd rs imm5) :=
  three_fields 0x1000#16 0xF800#16 imm5 6 rs.num 3 rd.num 0 (by decide) (by decide) (by decide) rfl

theorem addReg (rd : Reg) (ra : Reg) (rb : Reg) : Statement (.addReg rd ra rb) :=
  three_fields 0x1800#16 0xFE00#16 rb.num 6 ra.num 3 rd.num 0 (by decide) (by decide) (by decide) rfl

theorem subReg (rd : Reg) (ra : Reg) (rb : Reg) : Statement (.subReg rd ra rb) :=
  three_fields 0x1A00#16 0xFE00#16 rb.num 6 ra.num 3 rd.num 0 (by decide) (by decide) (by decide) rfl

theorem addImm3 (rd : Reg) (ra : Reg) (imm3 : BitVec 3) : Statement (.addImm3 rd ra imm3) :=
  three_fields 0x1C00#16 0xFE00#16 imm3 6 ra.num 3 rd.num 0 (by decide) (by decide) (by decide) rfl

theorem subImm3 (rd : Reg) (ra : Reg) (imm3 : BitVec 3) : Statement (.subImm3 rd ra imm3) :=
  three_fields 0x1E00#16 0xFE00#16 imm3 6 ra.num 3 rd.num 0 (by decide) (by decide) (by decide) rfl

theorem movImm (rd : Reg) (imm8 : BitVec 8) : Statement (.movImm rd imm8) :=
  two_fields 0x2000#16 0xF800#16 rd.num 8 imm8 0 (by decide) (by decide) rfl

theorem cmpImm (rd : Reg) (imm8 : BitVec 8) : Statement (.cmpImm rd imm8) :=
  two_fields 0x2800#16 0xF800#16 rd.num 8 imm8 0 (by decide) (by decide) rfl

theorem addImm8 (rd : Reg) (imm8 : BitVec 8) : Statement (.addImm8 rd imm8) :=
  two_fields 0x3000#16 0xF800#16 rd.num 8 imm8 0 (by decide) (by decide) rfl

theorem subImm8 (rd : Reg) (imm8 : BitVec 8) : Statement (.subImm8 rd imm8) :=
  two_fields 0x3800#16 0xF800#16 rd.num 8 imm8 0 (by decide) (by decide) rfl

theorem and (rd : Reg) (rs : Reg) : Statement (.and rd rs) :=
  two_fields 0x4000#16 0xFFC0#16 rs.num 3 rd.num 0 (by decide) (by decide) rfl

theorem eor (rd : Reg) (rs : Reg) : Statement (.eor rd rs) :=
  two_fields 0x4040#16 0xFFC0#16 rs.num 3 rd.num 0 (by decide) (by decide) rfl

theorem lslReg (rd : Reg) (rs : Reg) : Statement (.lslReg rd rs) :=
  two_fields 0x4080#16 0xFFC0#16 rs.num 3 rd.num 0 (by decide) (by decide) rfl

theorem lsrReg (rd : Reg) (rs : Reg) : Statement (.lsrReg rd rs) :=
  two_fields 0x40C0#16 0xFFC0#16 rs.num 3 rd.num 0 (by decide) (by decide) rfl

theorem asrReg (rd : Reg) (rs : Reg) : Statement (.asrReg rd rs) :=
  two_fields 0x4100#16 0xFFC0#16 rs.num 3 rd.num 0 (by decide) (by decide) rfl

theorem adc (rd : Reg) (rs : Reg) : Statement (.adc rd rs) :=
  two_fields 0x4140#16 0xFFC0#16 rs.num 3 rd.num 0 (by decide) (by decide) rfl

theorem sbc (rd : Reg) (rs : Reg) : Statement (.sbc rd rs) :=
  two_fields 0x4180#16 0xFFC0#16 rs.num 3 rd.num 0 (by decide) (by decide) rfl

theorem ror (rd : Reg) (rs : Reg) : Statement (.ror rd rs) :=
  two_fields 0x41C0#16 0xFFC0#16 rs.num 3 rd.num 0 (by decide) (by decide) rfl

theorem tst (rd : Reg) (rs : Reg) : Statement (.tst rd rs) :=
  two_fields 0x4200#16 0xFFC0#16 rs.num 3 rd.num 0 (by decide) (by decide) rfl

theorem neg (rd : Reg) (rs : Reg) : Statement (.neg rd rs) :=
  two_fields 0x4240#16 0xFFC0#16 rs.num 3 rd.num 0 (by decide) (by decide) rfl

theorem cmpReg (rd : Reg) (rs : Reg) : Statement (.cmpReg rd rs) :=
  two_fields 0x4280#16 0xFFC0#16 rs.num 3 rd.num 0 (by decide) (by decide) rfl

theorem cmn (rd : Reg) (rs : Reg) : Statement (.cmn rd rs) :=
  two_fields 0x42C0#16 0xFFC0#16 rs.num 3 rd.num 0 (by decide) (by decide) rfl

theorem orr (rd : Reg) (rs : Reg) : Statement (.orr rd rs) :=
  two_fields 0x4300#16 0xFFC0#16 rs.num 3 rd.num 0 (by decide) (by decide) rfl

theorem mul (rd : Reg) (rs : Reg) : Statement (.mul rd rs) :=
  two_fields 0x4340#16 0xFFC0#16 rs.num 3 rd.num 0 (by decide) (by decide) rfl

theorem bic (rd : Reg) (rs : Reg) : Statement (.bic rd rs) :=
  two_fields 0x4380#16 0xFFC0#16 rs.num 3 rd.num 0 (by decide) (by decide) rfl

theorem mvn (rd : Reg) (rs : Reg) : Statement (.mvn rd rs) :=
  two_fields 0x43C0#16 0xFFC0#16 rs.num 3 rd.num 0 (by decide) (by decide) rfl

theorem bx (ra : Reg) : Statement (.bx ra) :=
  one_field 0x4600#16 0xFFC0#16 ra.num 0 (by decide) rfl

theorem blx (ra : Reg) : Statement (.blx ra) :=
  one_field 0x4640#16 0xFFC0#16 ra.num 0 (by decide) rfl

theorem hwn (rd : Reg) : Statement (.hwn rd) :=
  one_field 0x4680#16 0xFFE0#16 rd.num 0 (by decide) rfl

theorem hwq (rd : Reg) : Statement (.hwq rd) :=
  one_field 0x46A0#16 0xFFE0#16 rd.num 0 (by decide) rfl

theorem hwi (rd : Reg) : Statement (.hwi rd) :=
  one_field 0x46C0#16 0xFFE0#16 rd.num 0 (by decide) rfl

theorem illegalF6 : Statement .illegalF6 :=
  (rfl : 0x46E0#16 &&& 0xFFE0#16 = 0x46E0#16)

theorem rfi : Statement .rfi :=
  (rfl : 0x4700#16 &&& 0xFFE0#16 = 0x4700#16)

theorem rsi : Statement .rsi :=
  (rfl : 0x4720#16 &&& 0xFFE0#16 = 0x4720#16)

theorem ifs : Statement .ifs :=
  (rfl : 0x4740#16 &&& 0xFFE0#16 = 0x4740#16)

theorem ifc : Statement .ifc :=
  (rfl : 0x4760#16 &&& 0xFFE0#16 = 0x4760#16)

theorem mrs (rd : Reg) : Statement (.mrs rd) :=
  one_field 0x4780#16 0xFFE0#16 rd.num 0 (by decide) rfl

theorem msr (rd : Reg) : Statement (.msr rd) :=
  one_field 0x47A0#16 0xFFE0#16 rd.num 0 (by decide) rfl

theorem illegalF7 : Statement .illegalF7 :=
  (rfl : 0x47C0#16 &&& 0xFFC0#16 = 0x47C0#16)

theorem unallocated0100010 : Statement .unallocated0100010 :=
  (rfl : 0x4400#16 &&& 0xFE00#16 = 0x4400#16)

theorem ldrPc (rd : Reg) (imm8 : BitVec 8) : Statement (.ldrPc rd imm8) :=
  two_fields 0x4800#16 0xF800#16 rd.num 8 imm8 0 (by decide) (by decide) rfl

theorem strReg (rd : Reg) (rb : Reg) (ra : Reg) : Statement (.strReg rd rb ra) :=
  three_fields 0x5000#16 0xFE00#16 ra.num 6 rb.num 3 rd.num 0 (by decide) (by decide) (by decide) rfl

theorem strRegPost (rd : Reg) (rb : Reg) (ra : Reg) : Statement (.strRegPost rd rb ra) :=
  three_fields 0x5400#16 0xFE00#16 ra.num 6 rb.num 3 rd.num 0 (by decide) (by decide) (by decide) rfl

theorem ldrReg (rd : Reg) (rb : Reg) (ra : Reg) : Statement (.ldrReg rd rb ra) :=
  three_fields 0x5800#16 0xFE00#16 ra.num 6 rb.num 3 rd.num 0 (by decide) (by decide) (by decide) rfl

theorem ldrRegPost (rd : Reg) (rb : Reg) (ra : Reg) : Statement (.ldrRegPost rd rb ra) :=
  three_fields 0x5C00#16 0xFE00#16 ra.num 6 rb.num 3 rd.num 0 (by decide) (by decide) (by decide) rfl

theorem unusedF10 : Statement .unusedF10 :=
  (rfl : 0x5200#16 &&& 0xF200#16 = 0x5200#16)

theorem strImm (rd : Reg) (rb : Reg) (imm5 : BitVec 5) : Statement (.strImm rd rb imm5) :=
  three_fields 0x6000#16 0xF800#16 imm5 6 rb.num 3 rd.num 0 (by decide) (by decide) (by decide) rfl

theorem strImmPost (rd : Reg) (rb : Reg) (imm5 : BitVec 5) : Statement (.strImmPost rd rb imm5) :=
  three_fields 0x6800#16 0xF800#16 imm5 6 rb.num 3 rd.num 0 (by decide) (by decide) (by decide) rfl

theorem ldrImm (rd : Reg) (rb : Reg) (imm5 : BitVec 5) : Statement (.ldrImm rd rb imm5) :=
  three_fields 0x7000#16 0xF800#16 imm5 6 rb.num 3 rd.num 0 (by decide) (by decide) (by decide) rfl

theorem ldrImmPost (rd : Reg) (rb : Reg) (imm5 : BitVec 5) : Statement (.ldrImmPost rd rb imm5) :=
  three_fields 0x7800#16 0xF800#16 imm5 6 rb.num 3 rd.num 0 (by decide) (by decide) (by decide) rfl

theorem unusedF12 : Statement .unusedF12 :=
  (rfl : 0x8000#16 &&& 0xF000#16 = 0x8000#16)

theorem strSp (rd : Reg) (imm8 : BitVec 8) : Statement (.strSp rd imm8) :=
  two_fields 0x9000#16 0xF800#16 rd.num 8 imm8 0 (by decide) (by decide) rfl

theorem ldrSp (rd : Reg) (imm8 : BitVec 8) : Statement (.ldrSp rd imm8) :=
  two_fields 0x9800#16 0xF800#16 rd.num 8 imm8 0 (by decide) (by decide) rfl

theorem addPc (rd : Reg) (imm8 : BitVec 8) : Statement (.addPc rd imm8) :=
  two_fields 0xA000#16 0xF800#16 rd.num 8 imm8 0 (by decide) (by decide) rfl

theorem addSp (rd : Reg) (imm8 : BitVec 8) : Statement (.addSp rd imm8) :=
  two_fields 0xA800#16 0xF800#16 rd.num 8 imm8 0 (by decide) (by decide) rfl

theorem addSpImm (imm7 : BitVec 7) : Statement (.addSpImm imm7) :=
  one_field 0xB000#16 0xFF80#16 imm7 0 (by decide) rfl

theorem subSpImm (imm7 : BitVec 7) : Statement (.subSpImm imm7) :=
  one_field 0xB080#16 0xFF80#16 imm7 0 (by decide) rfl

theorem push (rlist : BitVec 8) : Statement (.push rlist) :=
  one_field 0xB400#16 0xFF00#16 rlist 0 (by decide) rfl

theorem pushLr (rlist : BitVec 8) : Statement (.pushLr rlist) :=
  one_field 0xB500#16 0xFF00#16 rlist 0 (by decide) rfl

theorem pop (rlist : BitVec 8) : Statement (.pop rlist) :=
  one_field 0xBC00#16 0xFF00#16 rlist 0 (by decide) rfl

theorem popPc (rlist : BitVec 8) : Statement (.popPc rlist) :=
  one_field 0xBD00#16 0xFF00#16 rlist 0 (by decide) rfl

theorem unallocated1011x0001 : Statement .unallocated1011x0001 :=
  (rfl : 0xB100#16 &&& 0xFF00#16 = 0xB100#16)

theorem unallocated1011x0010 : Statement .unallocated1011x0010 :=
  (rfl : 0xB200#16 &&& 0xFF00#16 = 0xB200#16)

theorem unallocated1011x0011 : Statement .unallocated1011x0011 :=
  (rfl : 0xB300#16 &&& 0xFF00#16 = 0xB300#16)

theorem unallocated1011x0110 : Statement .unallocated1011x0110 :=
  (rfl : 0xB600#16 &&& 0xFF00#16 = 0xB600#16)

theorem unallocated1011x0111 : Statement .unallocated1011x0111 :=
  (rfl : 0xB700#16 &&& 0xFF00#16 = 0xB700#16)

theorem unallocated1011x1000 : Statement .unallocated1011x1000 :=
  (rfl : 0xB800#16 &&& 0xFF00#16 = 0xB800#16)

theorem unallocated1011x1001 : Statement .unallocated1011x1001 :=
  (rfl : 0xB900#16 &&& 0xFF00#16 = 0xB900#16)

theorem unallocated1011x1010 : Statement .unallocated1011x1010 :=
  (rfl : 0xBA00#16 &&& 0xFF00#16 = 0xBA00#16)

theorem unallocated1011x1011 : Statement .unallocated1011x1011 :=
  (rfl : 0xBB00#16 &&& 0xFF00#16 = 0xBB00#16)

theorem unallocated1011x1110 : Statement .unallocated1011x1110 :=
  (rfl : 0xBE00#16 &&& 0xFF00#16 = 0xBE00#16)

theorem unallocated1011x1111 : Statement .unallocated1011x1111 :=
  (rfl : 0xBF00#16 &&& 0xFF00#16 = 0xBF00#16)

theorem stmia (rb : Reg) (rlist : BitVec 8) : Statement (.stmia rb rlist) :=
  two_fields 0xC000#16 0xF800#16 rb.num 8 rlist 0 (by decide) (by decide) rfl

theorem ldmia (rb : Reg) (rlist : BitVec 8) : Statement (.ldmia rb rlist) :=
  two_fields 0xC800#16 0xF800#16 rb.num 8 rlist 0 (by decide) (by decide) rfl

theorem beq (imm8 : BitVec 8) : Statement (.beq imm8) :=
  one_field 0xD000#16 0xFF00#16 imm8 0 (by decide) rfl

theorem bne (imm8 : BitVec 8) : Statement (.bne imm8) :=
  one_field 0xD100#16 0xFF00#16 imm8 0 (by decide) rfl

theorem bcs (imm8 : BitVec 8) : Statement (.bcs imm8) :=
  one_field 0xD200#16 0xFF00#16 imm8 0 (by decide) rfl

theorem bcc (imm8 : BitVec 8) : Statement (.bcc imm8) :=
  one_field 0xD300#16 0xFF00#16 imm8 0 (by decide) rfl

theorem bmi (imm8 : BitVec 8) : Statement (.bmi imm8) :=
  one_field 0xD400#16 0xFF00#16 imm8 0 (by decide) rfl

theorem bpl (imm8 : BitVec 8) : Statement (.bpl imm8) :=
  one_field 0xD500#16 0xFF00#16 imm8 0 (by decide) rfl

theorem bvs (imm8 : BitVec 8) : Statement (.bvs imm8) :=
  one_field 0xD600#16 0xFF00#16 imm8 0 (by decide) rfl

theorem bvc (imm8 : BitVec 8) : Statement (.bvc imm8) :=
  one_field 0xD700#16 0xFF00#16 imm8 0 (by decide) rfl

theorem bhi (imm8 : BitVec 8) : Statement (.bhi imm8) :=
  one_field 0xD800#16 0xFF00#16 imm8 0 (by decide) rfl

theorem bls (imm8 : BitVec 8) : Statement (.bls imm8) :=
  one_field 0xD900#16 0xFF00#16 imm8 0 (by decide) rfl

theorem bge (imm8 : BitVec 8) : Statement (.bge imm8) :=
  one_field 0xDA00#16 0xFF00#16 imm8 0 (by decide) rfl

theorem blt (imm8 : BitVec 8) : Statement (.blt imm8) :=
  one_field 0xDB00#16 0xFF00#16 imm8 0 (by decide) rfl

theorem bgt (imm8 : BitVec 8) : Statement (.bgt imm8) :=
  one_field 0xDC00#16 0xFF00#16 imm8 0 (by decide) rfl

theorem ble (imm8 : BitVec 8) : Statement (.ble imm8) :=
  one_field 0xDD00#16 0xFF00#16 imm8 0 (by decide) rfl

theorem illegalCond1110 : Statement .illegalCond1110 :=
  (rfl : 0xDE00#16 &&& 0xFF00#16 = 0xDE00#16)

theorem swi (imm8 : BitVec 8) : Statement (.swi imm8) :=
  one_field 0xDF00#16 0xFF00#16 imm8 0 (by decide) rfl

theorem b (imm11 : BitVec 11) : Statement (.b imm11) :=
  one_field 0xE000#16 0xF800#16 imm11 0 (by decide) rfl

theorem unallocated11101 : Statement .unallocated11101 :=
  (rfl : 0xE800#16 &&& 0xF800#16 = 0xE800#16)

theorem blLo (imm8 : BitVec 8) : Statement (.blLo imm8) :=
  one_field 0xF000#16 0xFC00#16 imm8 0 (by decide) rfl

theorem blHi (imm8 : BitVec 8) : Statement (.blHi imm8) :=
  one_field 0xF400#16 0xFC00#16 imm8 0 (by decide) rfl

theorem blImm (imm11 : BitVec 11) : Statement (.blImm imm11) :=
  one_field 0xF800#16 0xF800#16 imm11 0 (by decide) rfl

end Sys2Proof.Laws.EncodeInRow
end

