-- ==== Sys2Proof/Laws/Shift.lean ====
section
/-! SUPPORT. The shifter is arithmetic (R141): each kind of shift, for every amount, as the predicates of Safety.lean
say it. -/

namespace Sys2Proof.Machine

open Sys2Proof.Claims

theorem getLsbD_eq_div_mod (v : Word) (k : Nat) : v.getLsbD k = decide (v.toNat / 2 ^ k % 2 = 1) := by
  rw [BitVec.getLsbD, Nat.testBit_eq_decide_div_mod_eq]

theorem setShiftFlags_c_none (v : Word) (p : Cpsr) : (setShiftFlags (v, none) p).c = p.c := rfl

theorem setShiftFlags_c_some (v : Word) (c : Bool) (p : Cpsr) : (setShiftFlags (v, some c) p).c = c := rfl

theorem shift_zero (kind : ShiftKind) (v : Word) : shift kind v 0 = (v, none) := by simp [shift]

theorem two_pow_split {n : Nat} (h : 16 ≤ n) : 2 ^ n = 65536 * 2 ^ (n - 16) := by
  rw [show 65536 = 2 ^ 16 from rfl, ← pow_add]
  congr 1
  omega

theorem div_two_pow_of_large (v : Word) {n : Nat} (h : 16 ≤ n) : v.toNat / 2 ^ n = 0 :=
  Nat.div_eq_of_lt (lt_of_lt_of_le v.isLt (Nat.pow_le_pow_right (by omega) h))

/-- The signed value shifted right by 15 or more is all sign. -/
theorem toInt_div_two_pow_of_large (v : Word) {n : Nat} (h : 15 ≤ n) :
    v.toInt / 2 ^ n = if v.getLsbD 15 then -1 else 0 := by
  have h1 : (2 : Int) ^ n = 32768 * 2 ^ (n - 15) := by
    rw [show (32768 : Int) = 2 ^ 15 from rfl, ← pow_add]
    congr 1
    omega
  have h2 : (0 : Int) ≤ 2 ^ (n - 15) := by positivity
  have h3 : v.toInt / 32768 = if v.getLsbD 15 then -1 else 0 := by
    have hv := v.isLt
    have hs := bit15_iff_neg v
    rw [toInt_eq] at *
    split <;> split at hs <;> simp_all <;> omega
  rw [h1, ← Int.ediv_ediv_of_nonneg (by omega), h3]
  split
  · exact Int.ediv_eq_neg_one_of_neg_of_le (by omega) (by have : (0 : Int) < 2 ^ (n - 15) := by positivity
                                                          omega)
  · simp

theorem shift_lsl_isShiftLeft (v : Word) (n : Nat) (p : Cpsr) :
    IsShiftLeft v n (shift .lsl v n).1 p (setShiftFlags (shift .lsl v n) p) := by
  refine ⟨?_, setShiftFlags_flagsNZ _ _, rfl, ?_⟩
  · by_cases h0 : n = 0
    · subst h0; simpa [shift] using (Nat.mod_eq_of_lt v.isLt).symm
    by_cases h1 : n ≤ 15
    · simp [shift, h0, h1, BitVec.toNat_shiftLeft, Nat.shiftLeft_eq]
    · have h2 : (shift .lsl v n).1 = 0#16 := by
        by_cases h : n = 16 <;> simp [shift, h0, h1, h]
      rw [h2, two_pow_split (by omega : 16 ≤ n), Nat.mul_left_comm]
      simp
  · by_cases h0 : n = 0
    · subst h0; simp [shift, setShiftFlags]
    by_cases h1 : n ≤ 15
    · have h2 : 65536 = 2 ^ (16 - n) * 2 ^ n := by
        rw [← pow_add, show 16 - n + n = 16 by omega]; rfl
      simp only [shift, h0, h1, if_true, if_false, setShiftFlags_c_some]
      rw [h2, Nat.mul_div_mul_right _ _ (by positivity), getLsbD_eq_div_mod]
    · rw [if_neg h0, two_pow_split (by omega : 16 ≤ n), Nat.mul_left_comm, Nat.mul_div_cancel_left _ (by omega)]
      by_cases h : n = 16
      · subst h
        simpa [shift, setShiftFlags_c_some] using getLsbD_eq_div_mod v 0
      · have h3 : 2 ^ (n - 16) = 2 * 2 ^ (n - 17) := by
          rw [← pow_succ']; congr 1; omega
        simp [shift, h0, h1, h, setShiftFlags_c_some, h3, Nat.mul_left_comm]

theorem shift_lsr_isShiftRight (v : Word) (n : Nat) (p : Cpsr) :
    IsShiftRight v n (shift .lsr v n).1 p (setShiftFlags (shift .lsr v n) p) := by
  refine ⟨?_, setShiftFlags_flagsNZ _ _, rfl, ?_⟩
  · by_cases h0 : n = 0
    · subst h0; simp [shift]
    by_cases h1 : n ≤ 15
    · simp [shift, h0, h1, Nat.shiftRight_eq_div_pow]
    · have h2 : (shift .lsr v n).1 = 0#16 := by
        by_cases h : n = 16 <;> simp [shift, h0, h1, h]
      simp [h2, div_two_pow_of_large v (by omega : 16 ≤ n)]
  · by_cases h0 : n = 0
    · subst h0; simp [shift, setShiftFlags]
    rw [if_neg h0]
    by_cases h1 : n ≤ 15
    · simp [shift, h0, h1, setShiftFlags_c_some, getLsbD_eq_div_mod]
    by_cases h : n = 16
    · subst h
      simpa [shift, setShiftFlags_c_some] using getLsbD_eq_div_mod v 15
    · simp [shift, h0, h1, h, setShiftFlags_c_some, div_two_pow_of_large v (by omega : 16 ≤ n - 1)]

theorem shift_asr_isShiftArith (v : Word) (n : Nat) (p : Cpsr) :
    IsShiftArith v n (shift .asr v n).1 p (setShiftFlags (shift .asr v n) p) := by
  refine ⟨?_, setShiftFlags_flagsNZ _ _, rfl, ?_⟩
  · by_cases h0 : n = 0
    · subst h0; simp [shift]
    by_cases h1 : n ≤ 15
    · simp [shift, h0, h1, BitVec.toInt_sshiftRight, Int.shiftRight_eq_div_pow]
    · rw [toInt_div_two_pow_of_large v (by omega : 15 ≤ n)]
      cases hs : v.getLsbD 15 <;> simp only [shift, h0, h1, hs, if_false] <;> decide
  · by_cases h0 : n = 0
    · subst h0; simp [shift, setShiftFlags]
    rw [if_neg h0]
    by_cases h1 : n ≤ 15
    · simp only [shift, h0, h1, if_true, if_false, setShiftFlags_c_some, getLsbD_eq_div_mod]
      congr 1
      have hv := v.isLt
      rw [toInt_eq]
      interval_cases n <;> split <;> simp only [eq_iff_iff] <;> omega
    · rw [toInt_div_two_pow_of_large v (by omega : 15 ≤ n - 1)]
      cases hs : v.getLsbD 15 <;> simp only [shift, h0, h1, setShiftFlags_c_some, hs, if_false] <;> decide

theorem shift_ror_isRotateRight (v : Word) (n : Nat) (p : Cpsr) :
    IsRotateRight v n (shift .ror v n).1 p (setShiftFlags (shift .ror v n) p) := by
  refine ⟨?_, setShiftFlags_flagsNZ _ _, rfl, ?_⟩
  · intro i hi
    by_cases h0 : n = 0
    · subst h0; simp [shift, Nat.mod_eq_of_lt hi]
    by_cases hk : n % 16 = 0
    · simp only [shift, h0, hk, if_true, if_false]
      congr 1
      omega
    · simp only [shift, h0, hk, if_false, BitVec.getLsbD_or, BitVec.getLsbD_ushiftRight, BitVec.getLsbD_shiftLeft]
      by_cases hc : i + n % 16 < 16
      · have h1 : (i + n) % 16 = n % 16 + i := by omega
        have h2 : i < 16 - n % 16 := by omega
        simp [h1, h2]
      · have h1 : (i + n) % 16 = i - (16 - n % 16) := by omega
        have h2 : ¬ i < 16 - n % 16 := by omega
        have h3 : v.getLsbD (n % 16 + i) = false := BitVec.getLsbD_of_ge _ _ (by omega)
        simp [h1, h2, h3, hi]
  · by_cases h0 : n = 0
    · subst h0; simp [shift, setShiftFlags]
    · simp [shift, h0, setShiftFlags_c_some]

end Sys2Proof.Machine
end

