-- ==== Sys2Proof/Tests/Slice0.lean ====
section
/-! SUPPORT. Tests of single steps and decodings against the spec's own vectors (95_test_vectors.md) and encodings
(30_encoding.md), the checks of WellFormed, and a witness for each statement that has hypotheses. -/

namespace Sys2Proof.Tests

open Sys2Proof.Machine Sys2Proof.Claims

/-! ## Helpers -/

/-- A state with a program counter, a status word, some registers and some memory words; the rest as after reset. -/
def start (pc status : Word) (gs : List (Reg × Word)) (ms : List (Word × Word)) : State :=
  { State.reset with
    pc := pc
    cpsr := (Cpsr.ofWord status).getD Config.resetCpsr
    regs := State.reset.regs.setAll gs
    mem := Memory.writeAll [] ms }

/-- What one step at a word leaves, looked at through `f`. -/
def stepView (w : Word) (s : State) (f : State → List Word) : Option (List Word) :=
  match step (s.withFetchWord 16 w.toNat) with
  | .next t => some (f t)
  | .fault _ => none
  | .refused _ => none

/-- Does one step at a word stop with `IllegalInstruction`, the address and the word reported? -/
def stepIllegal (w : Word) (s : State) : Bool :=
  match step (s.withFetchWord 16 w.toNat) with
  | .fault (.illegalInstruction a x) => a == s.pc && x == w
  | _ => false

/-- The outcome of an instruction is a next state. -/
def completes (r : Result) : Bool :=
  match r with
  | .next _ => true
  | .fault _ => false
  | .refused _ => false

/-! ## WellFormed refuses what is no instruction (R117 to R122, R274) -/

theorem test_wf_stmia_empty : Instr.wellFormed (.stmia .r1 0x00#8) = false := by decide
theorem test_wf_ldmia_empty : Instr.wellFormed (.ldmia .r7 0x00#8) = false := by decide
theorem test_wf_stmia_listed : Instr.wellFormed (.stmia .r1 0x80#8) = true := by decide
theorem test_wf_illegal_rows :
    ([Instr.illegalF6, Instr.illegalF7, Instr.unallocated0100010, Instr.unusedF10, Instr.unusedF12,
    Instr.unallocated1011x0001, Instr.unallocated1011x0010, Instr.unallocated1011x0011, Instr.unallocated1011x0110,
    Instr.unallocated1011x0111, Instr.unallocated1011x1000, Instr.unallocated1011x1001, Instr.unallocated1011x1010,
    Instr.unallocated1011x1011, Instr.unallocated1011x1110, Instr.unallocated1011x1111, Instr.illegalCond1110,
    Instr.unallocated11101].all (fun i => !i.wellFormed)) = true := by decide

/-! ## Decoding of words written out from the encodings of 30_encoding.md, don't-care bits 1 -/

theorem test_decode_F1 :
    decode 0b0000010110010001#16 = .lslImm .r1 .r2 0b10110#5 ∧
    decode 0b0000110110010001#16 = .lsrImm .r1 .r2 0b10110#5 ∧
    decode 0b0001010110010001#16 = .asrImm .r1 .r2 0b10110#5 := by decide

theorem test_decode_F2 :
    decode 0b0001100101110001#16 = .addReg .r1 .r6 .r5 ∧
    decode 0b0001101101110001#16 = .subReg .r1 .r6 .r5 ∧
    decode 0b0001110011110001#16 = .addImm3 .r1 .r6 0b011#3 ∧
    decode 0b0001111011110001#16 = .subImm3 .r1 .r6 0b011#3 := by decide

theorem test_decode_F3 :
    decode 0b0010000110110010#16 = .movImm .r1 0b10110010#8 ∧
    decode 0b0010100110110010#16 = .cmpImm .r1 0b10110010#8 ∧
    decode 0b0011000110110010#16 = .addImm8 .r1 0b10110010#8 ∧
    decode 0b0011100110110010#16 = .subImm8 .r1 0b10110010#8 := by decide

theorem test_decode_F4 :
    decode 0b0100000000010001#16 = .and .r1 .r2 ∧
    decode 0b0100000001010001#16 = .eor .r1 .r2 ∧
    decode 0b0100000010010001#16 = .lslReg .r1 .r2 ∧
    decode 0b0100000011010001#16 = .lsrReg .r1 .r2 ∧
    decode 0b0100000100010001#16 = .asrReg .r1 .r2 ∧
    decode 0b0100000101010001#16 = .adc .r1 .r2 ∧
    decode 0b0100000110010001#16 = .sbc .r1 .r2 ∧
    decode 0b0100000111010001#16 = .ror .r1 .r2 ∧
    decode 0b0100001000010001#16 = .tst .r1 .r2 ∧
    decode 0b0100001001010001#16 = .neg .r1 .r2 ∧
    decode 0b0100001010010001#16 = .cmpReg .r1 .r2 ∧
    decode 0b0100001011010001#16 = .cmn .r1 .r2 ∧
    decode 0b0100001100010001#16 = .orr .r1 .r2 ∧
    decode 0b0100001101010001#16 = .mul .r1 .r2 ∧
    decode 0b0100001110010001#16 = .bic .r1 .r2 ∧
    decode 0b0100001111010001#16 = .mvn .r1 .r2 := by decide

theorem test_decode_F5 :
    decode 0b0100011000111110#16 = .bx .r6 ∧
    decode 0b0100011001111110#16 = .blx .r6 := by decide

theorem test_decode_F6 :
    decode 0b0100011010011001#16 = .hwn .r1 ∧
    decode 0b0100011010111001#16 = .hwq .r1 ∧
    decode 0b0100011011011001#16 = .hwi .r1 ∧
    decode 0b0100011011111111#16 = .illegalF6 := by decide

theorem test_decode_F7 :
    decode 0b0100011100011111#16 = .rfi ∧
    decode 0b0100011100111111#16 = .rsi ∧
    decode 0b0100011101011111#16 = .ifs ∧
    decode 0b0100011101111111#16 = .ifc ∧
    decode 0b0100011110011001#16 = .mrs .r1 ∧
    decode 0b0100011110111001#16 = .msr .r1 ∧
    decode 0b0100011111111111#16 = .illegalF7 := by decide

theorem test_decode_unallocated :
    decode 0b0100010111111111#16 = .unallocated0100010 ∧
    decode 0b1011000111111111#16 = .unallocated1011x0001 ∧
    decode 0b1011001011111111#16 = .unallocated1011x0010 ∧
    decode 0b1011001111111111#16 = .unallocated1011x0011 ∧
    decode 0b1011011011111111#16 = .unallocated1011x0110 ∧
    decode 0b1011011111111111#16 = .unallocated1011x0111 ∧
    decode 0b1011100011111111#16 = .unallocated1011x1000 ∧
    decode 0b1011100111111111#16 = .unallocated1011x1001 ∧
    decode 0b1011101011111111#16 = .unallocated1011x1010 ∧
    decode 0b1011101111111111#16 = .unallocated1011x1011 ∧
    decode 0b1011111011111111#16 = .unallocated1011x1110 ∧
    decode 0b1011111111111111#16 = .unallocated1011x1111 ∧
    decode 0b1110111111111111#16 = .unallocated11101 := by decide

theorem test_decode_F8 :
    decode 0b0100100110110010#16 = .ldrPc .r1 0b10110010#8 := by decide

theorem test_decode_F9 :
    decode 0b0101000110101001#16 = .strReg .r1 .r5 .r6 ∧
    decode 0b0101010110101001#16 = .strRegPost .r1 .r5 .r6 ∧
    decode 0b0101100110101001#16 = .ldrReg .r1 .r5 .r6 ∧
    decode 0b0101110110101001#16 = .ldrRegPost .r1 .r5 .r6 := by decide

theorem test_decode_F10 :
    decode 0b0101111111111111#16 = .unusedF10 := by decide

theorem test_decode_F11 :
    decode 0b0110010110101001#16 = .strImm .r1 .r5 0b10110#5 ∧
    decode 0b0110110110101001#16 = .strImmPost .r1 .r5 0b10110#5 ∧
    decode 0b0111010110101001#16 = .ldrImm .r1 .r5 0b10110#5 ∧
    decode 0b0111110110101001#16 = .ldrImmPost .r1 .r5 0b10110#5 := by decide

theorem test_decode_F12 :
    decode 0b1000111111111111#16 = .unusedF12 := by decide

theorem test_decode_F13 :
    decode 0b1001000110110010#16 = .strSp .r1 0b10110010#8 ∧
    decode 0b1001100110110010#16 = .ldrSp .r1 0b10110010#8 := by decide

theorem test_decode_F14 :
    decode 0b1010000110110010#16 = .addPc .r1 0b10110010#8 ∧
    decode 0b1010100110110010#16 = .addSp .r1 0b10110010#8 := by decide

theorem test_decode_F15 :
    decode 0b1011000001010011#16 = .addSpImm 0b1010011#7 ∧
    decode 0b1011000011010011#16 = .subSpImm 0b1010011#7 := by decide

theorem test_decode_F16 :
    decode 0b1011010001100101#16 = .push 0b01100101#8 ∧
    decode 0b1011010101100101#16 = .pushLr 0b01100101#8 ∧
    decode 0b1011110001100101#16 = .pop 0b01100101#8 ∧
    decode 0b1011110101100101#16 = .popPc 0b01100101#8 := by decide

theorem test_decode_F17 :
    decode 0b1100010101100101#16 = .stmia .r5 0b01100101#8 ∧
    decode 0b1100110101100101#16 = .ldmia .r5 0b01100101#8 := by decide

theorem test_decode_F18 :
    decode 0b1101000010110010#16 = .beq 0b10110010#8 ∧
    decode 0b1101000110110010#16 = .bne 0b10110010#8 ∧
    decode 0b1101001010110010#16 = .bcs 0b10110010#8 ∧
    decode 0b1101001110110010#16 = .bcc 0b10110010#8 ∧
    decode 0b1101010010110010#16 = .bmi 0b10110010#8 ∧
    decode 0b1101010110110010#16 = .bpl 0b10110010#8 ∧
    decode 0b1101011010110010#16 = .bvs 0b10110010#8 ∧
    decode 0b1101011110110010#16 = .bvc 0b10110010#8 ∧
    decode 0b1101100010110010#16 = .bhi 0b10110010#8 ∧
    decode 0b1101100110110010#16 = .bls 0b10110010#8 ∧
    decode 0b1101101010110010#16 = .bge 0b10110010#8 ∧
    decode 0b1101101110110010#16 = .blt 0b10110010#8 ∧
    decode 0b1101110010110010#16 = .bgt 0b10110010#8 ∧
    decode 0b1101110110110010#16 = .ble 0b10110010#8 ∧
    decode 0b1101111011111111#16 = .illegalCond1110 := by decide

theorem test_decode_F19 :
    decode 0b1101111110110010#16 = .swi 0b10110010#8 := by decide

theorem test_decode_F20 :
    decode 0b1110011000110101#16 = .b 0b11000110101#11 := by decide

theorem test_decode_F22 :
    decode 0b1111001110110010#16 = .blLo 0b10110010#8 ∧
    decode 0b1111011110110010#16 = .blHi 0b10110010#8 := by decide

theorem test_decode_F21 :
    decode 0b1111111000110101#16 = .blImm 0b11000110101#11 := by decide


/-! ## Single steps, from the vectors of 95_test_vectors.md Part 2 -/

/-- LSL r0, r1, #0. -/
theorem test_lslImm_1 :
    stepView 0x0008#16 (start 0x0100#16 0x3010#16 [(.r1, 0x8001#16)] [])
      (fun t => [t.getReg .r0, t.cpsr.toWord, t.pc]) = some [0x8001#16, 0xB010#16, 0x0101#16] := by decide

/-- LSL r0, r1, #16. -/
theorem test_lslImm_2 :
    stepView 0x0408#16 (start 0x0100#16 0x0010#16 [(.r1, 0x0001#16)] [])
      (fun t => [t.getReg .r0, t.cpsr.toWord, t.pc]) = some [0x0000#16, 0x6010#16, 0x0101#16] := by decide

/-- LSR r0, r1, #16. -/
theorem test_lsrImm_1 :
    stepView 0x0C08#16 (start 0x0100#16 0x0010#16 [(.r1, 0x8000#16)] [])
      (fun t => [t.getReg .r0, t.cpsr.toWord, t.pc]) = some [0x0000#16, 0x6010#16, 0x0101#16] := by decide

/-- LSR r0, r1, #17. -/
theorem test_lsrImm_2 :
    stepView 0x0C48#16 (start 0x0100#16 0x2010#16 [(.r1, 0xFFFF#16)] [])
      (fun t => [t.getReg .r0, t.cpsr.toWord, t.pc]) = some [0x0000#16, 0x4010#16, 0x0101#16] := by decide

/-- ASR r0, r1, #15. -/
theorem test_asrImm_1 :
    stepView 0x13C8#16 (start 0x0100#16 0x0010#16 [(.r1, 0x7FFF#16)] [])
      (fun t => [t.getReg .r0, t.cpsr.toWord, t.pc]) = some [0x0000#16, 0x6010#16, 0x0101#16] := by decide

/-- ASR r0, r1, #31. -/
theorem test_asrImm_2 :
    stepView 0x17C8#16 (start 0x0100#16 0x2010#16 [(.r1, 0x7FFF#16)] [])
      (fun t => [t.getReg .r0, t.cpsr.toWord, t.pc]) = some [0x0000#16, 0x4010#16, 0x0101#16] := by decide

/-- ADD r0, r1, r2. -/
theorem test_addReg_1 :
    stepView 0x1888#16 (start 0x0100#16 0x0010#16 [(.r1, 0x7FFF#16), (.r2, 0x0001#16)] [])
      (fun t => [t.getReg .r0, t.cpsr.toWord, t.pc]) = some [0x8000#16, 0x9010#16, 0x0101#16] := by decide

/-- ADD r0, r1, r2. -/
theorem test_addReg_2 :
    stepView 0x1888#16 (start 0x0100#16 0x0010#16 [(.r1, 0x8000#16), (.r2, 0x8000#16)] [])
      (fun t => [t.getReg .r0, t.cpsr.toWord, t.pc]) = some [0x0000#16, 0x7010#16, 0x0101#16] := by decide

/-- SUB r0, r1, r2. -/
theorem test_subReg_1 :
    stepView 0x1A88#16 (start 0x0100#16 0x0010#16 [(.r1, 0x0000#16), (.r2, 0x0001#16)] [])
      (fun t => [t.getReg .r0, t.cpsr.toWord, t.pc]) = some [0xFFFF#16, 0x8010#16, 0x0101#16] := by decide

/-- SUB r0, r1, r2. -/
theorem test_subReg_2 :
    stepView 0x1A88#16 (start 0x0100#16 0x0010#16 [(.r1, 0x8000#16), (.r2, 0x0001#16)] [])
      (fun t => [t.getReg .r0, t.cpsr.toWord, t.pc]) = some [0x7FFF#16, 0x3010#16, 0x0101#16] := by decide

/-- ADD r0, r1, #7. -/
theorem test_addImm3_1 :
    stepView 0x1DC8#16 (start 0x0100#16 0x0010#16 [(.r1, 0xFFFC#16)] [])
      (fun t => [t.getReg .r0, t.cpsr.toWord, t.pc]) = some [0x0003#16, 0x2010#16, 0x0101#16] := by decide

/-- ADD r0, r1, #0. -/
theorem test_addImm3_2 :
    stepView 0x1C08#16 (start 0x0100#16 0xB010#16 [(.r1, 0x0000#16)] [])
      (fun t => [t.getReg .r0, t.cpsr.toWord, t.pc]) = some [0x0000#16, 0x4010#16, 0x0101#16] := by decide

/-- SUB r0, r1, #0. -/
theorem test_subImm3_1 :
    stepView 0x1E08#16 (start 0x0100#16 0x0010#16 [(.r1, 0x0000#16)] [])
      (fun t => [t.getReg .r0, t.cpsr.toWord, t.pc]) = some [0x0000#16, 0x6010#16, 0x0101#16] := by decide

/-- SUB r0, r1, #7. -/
theorem test_subImm3_2 :
    stepView 0x1FC8#16 (start 0x0100#16 0x0010#16 [(.r1, 0x0003#16)] [])
      (fun t => [t.getReg .r0, t.cpsr.toWord, t.pc]) = some [0xFFFC#16, 0x8010#16, 0x0101#16] := by decide

/-- MOV r0, #0. -/
theorem test_movImm_1 :
    stepView 0x2000#16 (start 0x0100#16 0xB010#16 [(.r0, 0x1234#16)] [])
      (fun t => [t.getReg .r0, t.cpsr.toWord, t.pc]) = some [0x0000#16, 0x7010#16, 0x0101#16] := by decide

/-- MOV r7, #255. -/
theorem test_movImm_2 :
    stepView 0x27FF#16 (start 0x0100#16 0x7010#16 [] [])
      (fun t => [t.getReg .r7, t.cpsr.toWord, t.pc]) = some [0x00FF#16, 0x3010#16, 0x0101#16] := by decide

/-- CMP r0, #48. -/
theorem test_cmpImm_1 :
    stepView 0x2830#16 (start 0x0100#16 0x0010#16 [(.r0, 0x0030#16)] [])
      (fun t => [t.cpsr.toWord, t.pc]) = some [0x6010#16, 0x0101#16] := by decide

/-- CMP r0, #1. -/
theorem test_cmpImm_2 :
    stepView 0x2801#16 (start 0x0100#16 0x0010#16 [(.r0, 0x8000#16)] [])
      (fun t => [t.cpsr.toWord, t.pc]) = some [0x3010#16, 0x0101#16] := by decide

/-- ADD r0, #255. -/
theorem test_addImm8_1 :
    stepView 0x30FF#16 (start 0x0100#16 0x0010#16 [(.r0, 0xFF01#16)] [])
      (fun t => [t.getReg .r0, t.cpsr.toWord, t.pc]) = some [0x0000#16, 0x6010#16, 0x0101#16] := by decide

/-- ADD r0, #1. -/
theorem test_addImm8_2 :
    stepView 0x3001#16 (start 0x0100#16 0x0010#16 [(.r0, 0x7FFF#16)] [])
      (fun t => [t.getReg .r0, t.cpsr.toWord, t.pc]) = some [0x8000#16, 0x9010#16, 0x0101#16] := by decide

/-- SUB r0, #1. -/
theorem test_subImm8_1 :
    stepView 0x3801#16 (start 0x0100#16 0x0010#16 [(.r0, 0x0000#16)] [])
      (fun t => [t.getReg .r0, t.cpsr.toWord, t.pc]) = some [0xFFFF#16, 0x8010#16, 0x0101#16] := by decide

/-- SUB r1, #1. -/
theorem test_subImm8_2 :
    stepView 0x3901#16 (start 0x0100#16 0x0010#16 [(.r1, 0x0001#16)] [])
      (fun t => [t.getReg .r1, t.cpsr.toWord, t.pc]) = some [0x0000#16, 0x6010#16, 0x0101#16] := by decide

/-- AND r0, r1. -/
theorem test_and_1 :
    stepView 0x4008#16 (start 0x0100#16 0x3010#16 [(.r0, 0xF0F0#16), (.r1, 0x3C3C#16)] [])
      (fun t => [t.getReg .r0, t.cpsr.toWord, t.pc]) = some [0x3030#16, 0x3010#16, 0x0101#16] := by decide

/-- EOR r0, r1. -/
theorem test_eor_1 :
    stepView 0x4048#16 (start 0x0100#16 0x0010#16 [(.r0, 0xFFFF#16), (.r1, 0xFFFF#16)] [])
      (fun t => [t.getReg .r0, t.cpsr.toWord, t.pc]) = some [0x0000#16, 0x4010#16, 0x0101#16] := by decide

/-- EOR r0, r0. -/
theorem test_eor_2 :
    stepView 0x4040#16 (start 0x0100#16 0xB010#16 [(.r0, 0x1234#16)] [])
      (fun t => [t.getReg .r0, t.cpsr.toWord, t.pc]) = some [0x0000#16, 0x7010#16, 0x0101#16] := by decide

/-- LSL r0, r1. -/
theorem test_lslReg_1 :
    stepView 0x4088#16 (start 0x0100#16 0x0010#16 [(.r0, 0x0001#16), (.r1, 0x0010#16)] [])
      (fun t => [t.getReg .r0, t.cpsr.toWord, t.pc]) = some [0x0000#16, 0x6010#16, 0x0101#16] := by decide

/-- LSL r0, r1. -/
theorem test_lslReg_2 :
    stepView 0x4088#16 (start 0x0100#16 0x2010#16 [(.r0, 0xFFFF#16), (.r1, 0x0100#16)] [])
      (fun t => [t.getReg .r0, t.cpsr.toWord, t.pc]) = some [0x0000#16, 0x4010#16, 0x0101#16] := by decide

/-- LSR r0, r1. -/
theorem test_lsrReg_1 :
    stepView 0x40C8#16 (start 0x0100#16 0x0010#16 [(.r0, 0x8000#16), (.r1, 0x0010#16)] [])
      (fun t => [t.getReg .r0, t.cpsr.toWord, t.pc]) = some [0x0000#16, 0x6010#16, 0x0101#16] := by decide

/-- LSR r0, r1. -/
theorem test_lsrReg_2 :
    stepView 0x40C8#16 (start 0x0100#16 0x2010#16 [(.r0, 0x8000#16), (.r1, 0xFFFF#16)] [])
      (fun t => [t.getReg .r0, t.cpsr.toWord, t.pc]) = some [0x0000#16, 0x4010#16, 0x0101#16] := by decide

/-- ASR r0, r1. -/
theorem test_asrReg_1 :
    stepView 0x4108#16 (start 0x0100#16 0x0010#16 [(.r0, 0x8000#16), (.r1, 0x0010#16)] [])
      (fun t => [t.getReg .r0, t.cpsr.toWord, t.pc]) = some [0xFFFF#16, 0xA010#16, 0x0101#16] := by decide

/-- ASR r0, r1. -/
theorem test_asrReg_2 :
    stepView 0x4108#16 (start 0x0100#16 0x2010#16 [(.r0, 0x4000#16), (.r1, 0x8000#16)] [])
      (fun t => [t.getReg .r0, t.cpsr.toWord, t.pc]) = some [0x0000#16, 0x4010#16, 0x0101#16] := by decide

/-- ADC r0, r1. -/
theorem test_adc_1 :
    stepView 0x4148#16 (start 0x0100#16 0x2010#16 [(.r0, 0xFFFF#16), (.r1, 0x0000#16)] [])
      (fun t => [t.getReg .r0, t.cpsr.toWord, t.pc]) = some [0x0000#16, 0x6010#16, 0x0101#16] := by decide

/-- ADC r0, r1. -/
theorem test_adc_2 :
    stepView 0x4148#16 (start 0x0100#16 0x2010#16 [(.r0, 0x7FFF#16), (.r1, 0x0000#16)] [])
      (fun t => [t.getReg .r0, t.cpsr.toWord, t.pc]) = some [0x8000#16, 0x9010#16, 0x0101#16] := by decide

/-- SBC r0, r1. -/
theorem test_sbc_1 :
    stepView 0x4188#16 (start 0x0100#16 0x0010#16 [(.r0, 0x0005#16), (.r1, 0x0003#16)] [])
      (fun t => [t.getReg .r0, t.cpsr.toWord, t.pc]) = some [0x0001#16, 0x2010#16, 0x0101#16] := by decide

/-- SBC r0, r1. -/
theorem test_sbc_2 :
    stepView 0x4188#16 (start 0x0100#16 0x0010#16 [(.r0, 0x0000#16), (.r1, 0x0000#16)] [])
      (fun t => [t.getReg .r0, t.cpsr.toWord, t.pc]) = some [0xFFFF#16, 0x8010#16, 0x0101#16] := by decide

/-- ROR r0, r1. -/
theorem test_ror_1 :
    stepView 0x41C8#16 (start 0x0100#16 0x0010#16 [(.r0, 0x1234#16), (.r1, 0x0004#16)] [])
      (fun t => [t.getReg .r0, t.cpsr.toWord, t.pc]) = some [0x4123#16, 0x0010#16, 0x0101#16] := by decide

/-- ROR r0, r1. -/
theorem test_ror_2 :
    stepView 0x41C8#16 (start 0x0100#16 0x0010#16 [(.r0, 0x8001#16), (.r1, 0x0010#16)] [])
      (fun t => [t.getReg .r0, t.cpsr.toWord, t.pc]) = some [0x8001#16, 0xA010#16, 0x0101#16] := by decide

/-- TST r0, r1. -/
theorem test_tst_1 :
    stepView 0x4208#16 (start 0x0100#16 0x3010#16 [(.r0, 0x00F0#16), (.r1, 0x000F#16)] [])
      (fun t => [t.cpsr.toWord, t.pc]) = some [0x7010#16, 0x0101#16] := by decide

/-- TST r0, r1. -/
theorem test_tst_2 :
    stepView 0x4208#16 (start 0x0100#16 0x0010#16 [(.r0, 0x8000#16), (.r1, 0xFFFF#16)] [])
      (fun t => [t.cpsr.toWord, t.pc]) = some [0x8010#16, 0x0101#16] := by decide

/-- NEG r0, r1. -/
theorem test_neg_1 :
    stepView 0x4248#16 (start 0x0100#16 0x0010#16 [(.r0, 0x5555#16), (.r1, 0x0000#16)] [])
      (fun t => [t.getReg .r0, t.cpsr.toWord, t.pc]) = some [0x0000#16, 0x6010#16, 0x0101#16] := by decide

/-- NEG r0, r1. -/
theorem test_neg_2 :
    stepView 0x4248#16 (start 0x0100#16 0x0010#16 [(.r1, 0x8000#16)] [])
      (fun t => [t.getReg .r0, t.cpsr.toWord, t.pc]) = some [0x8000#16, 0x9010#16, 0x0101#16] := by decide

/-- CMP r0, r1. -/
theorem test_cmpReg_1 :
    stepView 0x4288#16 (start 0x0100#16 0x0010#16 [(.r0, 0x0005#16), (.r1, 0x0007#16)] [])
      (fun t => [t.cpsr.toWord, t.pc]) = some [0x8010#16, 0x0101#16] := by decide

/-- CMP r0, r1. -/
theorem test_cmpReg_2 :
    stepView 0x4288#16 (start 0x0100#16 0x0010#16 [(.r0, 0x8000#16), (.r1, 0x7FFF#16)] [])
      (fun t => [t.cpsr.toWord, t.pc]) = some [0x3010#16, 0x0101#16] := by decide

/-- CMN r0, r1. -/
theorem test_cmn_1 :
    stepView 0x42C8#16 (start 0x0100#16 0x0010#16 [(.r0, 0x0001#16), (.r1, 0xFFFF#16)] [])
      (fun t => [t.cpsr.toWord, t.pc]) = some [0x6010#16, 0x0101#16] := by decide

/-- CMN r0, r1. -/
theorem test_cmn_2 :
    stepView 0x42C8#16 (start 0x0100#16 0x0010#16 [(.r0, 0x7FFF#16), (.r1, 0x7FFF#16)] [])
      (fun t => [t.cpsr.toWord, t.pc]) = some [0x9010#16, 0x0101#16] := by decide

/-- ORR r0, r1. -/
theorem test_orr_1 :
    stepView 0x4308#16 (start 0x0100#16 0x3010#16 [(.r0, 0x8000#16), (.r1, 0x0001#16)] [])
      (fun t => [t.getReg .r0, t.cpsr.toWord, t.pc]) = some [0x8001#16, 0xB010#16, 0x0101#16] := by decide

/-- MUL r0, r1. -/
theorem test_mul_1 :
    stepView 0x4348#16 (start 0x0100#16 0x3010#16 [(.r0, 0x1234#16), (.r1, 0x5678#16)] [])
      (fun t => [t.getReg .r0, t.cpsr.toWord, t.pc]) = some [0x0060#16, 0x3010#16, 0x0101#16] := by decide

/-- MUL r0, r0. -/
theorem test_mul_2 :
    stepView 0x4340#16 (start 0x0100#16 0x0010#16 [(.r0, 0x00FF#16)] [])
      (fun t => [t.getReg .r0, t.cpsr.toWord, t.pc]) = some [0xFE01#16, 0x8010#16, 0x0101#16] := by decide

/-- BIC r0, r1. -/
theorem test_bic_1 :
    stepView 0x4388#16 (start 0x0100#16 0x0010#16 [(.r0, 0xFFFF#16), (.r1, 0x00FF#16)] [])
      (fun t => [t.getReg .r0, t.cpsr.toWord, t.pc]) = some [0xFF00#16, 0x8010#16, 0x0101#16] := by decide

/-- MVN r0, r1. -/
theorem test_mvn_1 :
    stepView 0x43C8#16 (start 0x0100#16 0x3010#16 [(.r1, 0xFFFF#16)] [])
      (fun t => [t.getReg .r0, t.cpsr.toWord, t.pc]) = some [0x0000#16, 0x7010#16, 0x0101#16] := by decide

/-- MVN r0, r1. -/
theorem test_mvn_2 :
    stepView 0x43C8#16 (start 0x0100#16 0x0010#16 [(.r1, 0x0000#16)] [])
      (fun t => [t.getReg .r0, t.cpsr.toWord, t.pc]) = some [0xFFFF#16, 0x8010#16, 0x0101#16] := by decide

/-- BX r3. -/
theorem test_bx_1 :
    stepView 0x4603#16 (start 0x0100#16 0x0010#16 [(.r3, 0x2000#16)] [])
      (fun t => [t.pc]) = some [0x2000#16] := by decide

/-- BX r3. -/
theorem test_bx_2 :
    stepView 0x463B#16 (start 0x0100#16 0x0010#16 [(.r3, 0xFFFF#16)] [])
      (fun t => [t.pc]) = some [0xFFFF#16] := by decide

/-- BLX r3. -/
theorem test_blx_1 :
    stepView 0x4643#16 (start 0x0100#16 0x0010#16 [(.r3, 0x2000#16)] [])
      (fun t => [t.lrUsr, t.pc]) = some [0x0101#16, 0x2000#16] := by decide

/-- BLX r0. -/
theorem test_blx_2 :
    stepView 0x4640#16 (start 0x0100#16 0x0011#16 [(.r0, 0x0101#16)] [])
      (fun t => [t.lrSwi, t.pc]) = some [0x0101#16, 0x0101#16] := by decide

/-- (oo = 11). -/
theorem test_illegalF6_1 :
    stepIllegal 0x46E0#16
      (start 0x0100#16 0x0010#16 [] []) = true := by decide

/-- (oo = 11). -/
theorem test_illegalF6_2 :
    stepIllegal 0x46FF#16
      (start 0x0100#16 0x0010#16 [] []) = true := by decide

/-- RFI. -/
theorem test_rfi_1 :
    stepView 0x4700#16 { start 0x0100#16 0x0012#16 [] [(0xEFFF#16, 0xBEEF#16)] with spsrIrq := 0x2090#16, lrIrq := 0x0123#16, spIrq := 0xEFFF#16 }
      (fun t => [t.getReg .r0, t.spIrq, t.pc, t.cpsr.toWord]) = some [0xBEEF#16, 0xF000#16, 0x0123#16, 0x2090#16] := by decide

/-- RFI. -/
theorem test_rfi_2 :
    stepView 0x4700#16 { start 0x0100#16 0x0012#16 [] [(0xFFFF#16, 0x0007#16)] with spsrIrq := 0x0091#16, lrIrq := 0x0020#16, spIrq := 0xFFFF#16 }
      (fun t => [t.getReg .r0, t.spIrq, t.pc, t.cpsr.toWord]) = some [0x0007#16, 0x0000#16, 0x0020#16, 0x0091#16] := by decide

/-- RSI. -/
theorem test_rsi_1 :
    stepView 0x4720#16 { start 0x0100#16 0x0011#16 [] [] with spsrSwi := 0x4090#16, lrSwi := 0x0205#16 }
      (fun t => [t.pc, t.cpsr.toWord]) = some [0x0205#16, 0x4090#16] := by decide

/-- RSI. -/
theorem test_rsi_2 :
    stepView 0x4720#16 { start 0x0100#16 0x0010#16 [] [] with spsrSwi := 0x0012#16, lrSwi := 0x0300#16 }
      (fun t => [t.pc, t.cpsr.toWord]) = some [0x0300#16, 0x0012#16] := by decide

/-- IFS. -/
theorem test_ifs_1 :
    stepView 0x4740#16 (start 0x0100#16 0x0010#16 [] [])
      (fun t => [t.cpsr.toWord, t.pc]) = some [0x0090#16, 0x0101#16] := by decide

/-- IFS. -/
theorem test_ifs_2 :
    stepView 0x475F#16 (start 0x0100#16 0xF011#16 [] [])
      (fun t => [t.cpsr.toWord, t.pc]) = some [0xF091#16, 0x0101#16] := by decide

/-- IFC. -/
theorem test_ifc_1 :
    stepView 0x4760#16 (start 0x0100#16 0xA091#16 [] [])
      (fun t => [t.cpsr.toWord, t.pc]) = some [0xA011#16, 0x0101#16] := by decide

/-- IFC. -/
theorem test_ifc_2 :
    stepView 0x4760#16 (start 0x0100#16 0x0010#16 [] [])
      (fun t => [t.cpsr.toWord, t.pc]) = some [0x0010#16, 0x0101#16] := by decide

/-- MRS r0. -/
theorem test_mrs_1 :
    stepView 0x4780#16 (start 0x0100#16 0x0011#16 [(.r0, 0x8090#16)] [])
      (fun t => [t.spsrSwi, t.pc]) = some [0x8090#16, 0x0101#16] := by decide

/-- MRS r0. -/
theorem test_mrs_2 :
    stepIllegal 0x4780#16
      (start 0x0100#16 0x0010#16 [] []) = true := by decide

/-- MSR r1. -/
theorem test_msr_1 :
    stepView 0x47A1#16 { start 0x0100#16 0x0012#16 [] [] with spsrIrq := 0x2090#16, spsrSwi := 0x6010#16 }
      (fun t => [t.getReg .r1, t.pc]) = some [0x2090#16, 0x0101#16] := by decide

/-- MSR r0. -/
theorem test_msr_2 :
    stepIllegal 0x47A0#16
      (start 0x0100#16 0x0010#16 [] []) = true := by decide

/-- LDR r0, [PC, #0]. -/
theorem test_ldrPc_1 :
    stepView 0x4800#16 (start 0x0100#16 0x0010#16 [] [(0x0101#16, 0xE7FF#16)])
      (fun t => [t.getReg .r0, t.pc]) = some [0xE7FF#16, 0x0101#16] := by decide

/-- LDR r3, [PC, #255]. -/
theorem test_ldrPc_2 :
    stepView 0x4BFF#16 (start 0x0100#16 0x0010#16 [] [(0x0200#16, 0xCAFE#16)])
      (fun t => [t.getReg .r3, t.pc]) = some [0xCAFE#16, 0x0101#16] := by decide

/-- STR r0, [r1, r2]. -/
theorem test_strReg_1 :
    stepView 0x5088#16 (start 0x0100#16 0x0010#16 [(.r0, 0xABCD#16), (.r1, 0x3000#16), (.r2, 0x0010#16)] [])
      (fun t => [t.readMem 0x3010#16, t.pc]) = some [0xABCD#16, 0x0101#16] := by decide

/-- STR r0, [r1, r2]. -/
theorem test_strReg_2 :
    stepView 0x5088#16 (start 0x0100#16 0x0010#16 [(.r0, 0xABCD#16), (.r1, 0xFFFF#16), (.r2, 0x0002#16)] [])
      (fun t => [t.readMem 0x0001#16, t.pc]) = some [0xABCD#16, 0x0101#16] := by decide

/-- STR r0, [r1], r2. -/
theorem test_strRegPost_1 :
    stepView 0x5488#16 (start 0x0100#16 0x0010#16 [(.r0, 0xABCD#16), (.r1, 0x3000#16), (.r2, 0x0010#16)] [])
      (fun t => [t.getReg .r1, t.readMem 0x3000#16, t.pc]) = some [0x3010#16, 0xABCD#16, 0x0101#16] := by decide

/-- STR r1, [r1], r2. -/
theorem test_strRegPost_2 :
    stepView 0x5489#16 (start 0x0100#16 0x0010#16 [(.r1, 0x3000#16), (.r2, 0x0010#16)] [])
      (fun t => [t.getReg .r1, t.readMem 0x3000#16, t.pc]) = some [0x3010#16, 0x3000#16, 0x0101#16] := by decide

/-- LDR r0, [r1, r2]. -/
theorem test_ldrReg_1 :
    stepView 0x5888#16 (start 0x0100#16 0x0010#16 [(.r1, 0x3000#16), (.r2, 0xFFFF#16)] [(0x2FFF#16, 0x1357#16)])
      (fun t => [t.getReg .r0, t.pc]) = some [0x1357#16, 0x0101#16] := by decide

/-- LDR r0, [r1], r2. -/
theorem test_ldrRegPost_1 :
    stepView 0x5C88#16 (start 0x0100#16 0x0010#16 [(.r1, 0x3000#16), (.r2, 0x0010#16)] [(0x3000#16, 0x2468#16)])
      (fun t => [t.getReg .r0, t.getReg .r1, t.pc]) = some [0x2468#16, 0x3010#16, 0x0101#16] := by decide

/-- LDR r1, [r1], r2. -/
theorem test_ldrRegPost_2 :
    stepView 0x5C89#16 (start 0x0100#16 0x0010#16 [(.r1, 0x3000#16), (.r2, 0x0010#16)] [(0x3000#16, 0x2468#16)])
      (fun t => [t.getReg .r1, t.pc]) = some [0x3010#16, 0x0101#16] := by decide

/-- STR r0, [r1, #3]. -/
theorem test_strImm_1 :
    stepView 0x60C8#16 (start 0x0100#16 0x0010#16 [(.r0, 0xABCD#16), (.r1, 0x3000#16)] [])
      (fun t => [t.readMem 0x3003#16, t.pc]) = some [0xABCD#16, 0x0101#16] := by decide

/-- STR r0, [r1, #31]. -/
theorem test_strImm_2 :
    stepView 0x67C8#16 (start 0x0100#16 0x0010#16 [(.r0, 0xABCD#16), (.r1, 0xFFF0#16)] [])
      (fun t => [t.readMem 0x000F#16, t.pc]) = some [0xABCD#16, 0x0101#16] := by decide

/-- STR r0, [r1], #3. -/
theorem test_strImmPost_1 :
    stepView 0x68C8#16 (start 0x0100#16 0x0010#16 [(.r0, 0xABCD#16), (.r1, 0x3000#16)] [])
      (fun t => [t.getReg .r1, t.readMem 0x3000#16, t.pc]) = some [0x3003#16, 0xABCD#16, 0x0101#16] := by decide

/-- LDR r0, [r1, #3]. -/
theorem test_ldrImm_1 :
    stepView 0x70C8#16 (start 0x0100#16 0x0010#16 [(.r1, 0x3000#16)] [(0x3003#16, 0x1357#16)])
      (fun t => [t.getReg .r0, t.pc]) = some [0x1357#16, 0x0101#16] := by decide

/-- LDR r0, [r0, #0]. -/
theorem test_ldrImm_2 :
    stepView 0x7000#16 (start 0x0100#16 0x0010#16 [(.r0, 0x3000#16)] [(0x3000#16, 0x2468#16)])
      (fun t => [t.getReg .r0, t.pc]) = some [0x2468#16, 0x0101#16] := by decide

/-- LDR r0, [r1], #3. -/
theorem test_ldrImmPost_1 :
    stepView 0x78C8#16 (start 0x0100#16 0x0010#16 [(.r1, 0x3000#16)] [(0x3000#16, 0x2468#16)])
      (fun t => [t.getReg .r0, t.getReg .r1, t.pc]) = some [0x2468#16, 0x3003#16, 0x0101#16] := by decide

/-- STR r0, [SP, #2]. -/
theorem test_strSp_1 :
    stepView 0x9002#16 { start 0x0100#16 0x0010#16 [(.r0, 0xABCD#16)] [] with spUsr := 0xFF00#16 }
      (fun t => [t.readMem 0xFF02#16, t.pc]) = some [0xABCD#16, 0x0101#16] := by decide

/-- STR r0, [SP, #255]. -/
theorem test_strSp_2 :
    stepView 0x90FF#16 { start 0x0100#16 0x0010#16 [(.r0, 0xABCD#16)] [] with spUsr := 0xFF80#16 }
      (fun t => [t.readMem 0x007F#16, t.pc]) = some [0xABCD#16, 0x0101#16] := by decide

/-- LDR r0, [SP, #2]. -/
theorem test_ldrSp_1 :
    stepView 0x9802#16 { start 0x0100#16 0x0010#16 [] [(0xFF02#16, 0x1357#16)] with spUsr := 0xFF00#16 }
      (fun t => [t.getReg .r0, t.pc]) = some [0x1357#16, 0x0101#16] := by decide

/-- LDR r0, [SP, #0]. -/
theorem test_ldrSp_2 :
    stepView 0x9800#16 { start 0x0100#16 0x0012#16 [] [(0xFF00#16, 0x1111#16), (0xEF00#16, 0x2222#16)] with spUsr := 0xFF00#16, spIrq := 0xEF00#16 }
      (fun t => [t.getReg .r0, t.pc]) = some [0x2222#16, 0x0101#16] := by decide

/-- ADD r2, PC, #4. -/
theorem test_addPc_1 :
    stepView 0xA204#16 (start 0x0200#16 0x0010#16 [] [])
      (fun t => [t.getReg .r2, t.pc]) = some [0x0205#16, 0x0201#16] := by decide

/-- ADD r2, PC, #255. -/
theorem test_addPc_2 :
    stepView 0xA2FF#16 (start 0xFFFF#16 0x0010#16 [] [])
      (fun t => [t.getReg .r2, t.pc]) = some [0x00FF#16, 0x0000#16] := by decide

/-- ADD r3, SP, #16. -/
theorem test_addSp_1 :
    stepView 0xAB10#16 { start 0x0100#16 0x0010#16 [] [] with spUsr := 0xFF00#16 }
      (fun t => [t.getReg .r3, t.pc]) = some [0xFF10#16, 0x0101#16] := by decide

/-- ADD SP, #4. -/
theorem test_addSpImm_1 :
    stepView 0xB004#16 { start 0x0100#16 0x0010#16 [] [] with spUsr := 0xFF00#16 }
      (fun t => [t.spUsr, t.pc]) = some [0xFF04#16, 0x0101#16] := by decide

/-- ADD SP, #127. -/
theorem test_addSpImm_2 :
    stepView 0xB07F#16 { start 0x0100#16 0x0010#16 [] [] with spUsr := 0xFFFF#16 }
      (fun t => [t.spUsr, t.pc]) = some [0x007E#16, 0x0101#16] := by decide

/-- SUB SP, #127. -/
theorem test_subSpImm_1 :
    stepView 0xB0FF#16 { start 0x0100#16 0x0010#16 [] [] with spUsr := 0xFF04#16 }
      (fun t => [t.spUsr, t.pc]) = some [0xFE85#16, 0x0101#16] := by decide

/-- SUB SP, #1. -/
theorem test_subSpImm_2 :
    stepView 0xB081#16 { start 0x0100#16 0x0010#16 [] [] with spUsr := 0x0000#16 }
      (fun t => [t.spUsr, t.pc]) = some [0xFFFF#16, 0x0101#16] := by decide

/-- PUSH {r7}. -/
theorem test_push_1 :
    stepView 0xB480#16 { start 0x0100#16 0x0010#16 [(.r7, 0x7777#16)] [] with spUsr := 0xFF00#16 }
      (fun t => [t.spUsr, t.readMem 0xFEFF#16, t.pc]) = some [0xFEFF#16, 0x7777#16, 0x0101#16] := by decide

/-- PUSH {}. -/
theorem test_push_2 :
    stepView 0xB400#16 { start 0x0100#16 0x0010#16 [] [] with spUsr := 0xFF00#16 }
      (fun t => [t.pc, t.spUsr]) = some [0x0101#16, 0xFF00#16] := by decide

/-- PUSH {r0, r3, LR}. -/
theorem test_pushLr_1 :
    stepView 0xB509#16 { start 0x0100#16 0x0010#16 [(.r0, 0x1111#16), (.r3, 0x3333#16)] [] with lrUsr := 0x0207#16, spUsr := 0xFF00#16 }
      (fun t => [t.spUsr, t.readMem 0xFEFD#16, t.readMem 0xFEFE#16, t.readMem 0xFEFF#16, t.pc]) = some [0xFEFD#16, 0x1111#16, 0x3333#16, 0x0207#16, 0x0101#16] := by decide

/-- PUSH {LR}. -/
theorem test_pushLr_2 :
    stepView 0xB500#16 { start 0x0100#16 0x0010#16 [] [] with lrUsr := 0x0207#16, spUsr := 0x0000#16 }
      (fun t => [t.spUsr, t.readMem 0xFFFF#16, t.pc]) = some [0xFFFF#16, 0x0207#16, 0x0101#16] := by decide

/-- POP {r7}. -/
theorem test_pop_1 :
    stepView 0xBC80#16 { start 0x0100#16 0x0010#16 [] [(0xFEFF#16, 0x7777#16)] with spUsr := 0xFEFF#16 }
      (fun t => [t.getReg .r7, t.spUsr, t.pc]) = some [0x7777#16, 0xFF00#16, 0x0101#16] := by decide

/-- POP {}. -/
theorem test_pop_2 :
    stepView 0xBC00#16 { start 0x0100#16 0x0010#16 [] [] with spUsr := 0xFF00#16 }
      (fun t => [t.pc, t.spUsr]) = some [0x0101#16, 0xFF00#16] := by decide

/-- POP {r0, r3, PC}. -/
theorem test_popPc_1 :
    stepView 0xBD09#16 { start 0x0100#16 0x0010#16 [] [(0xFEFD#16, 0x1111#16), (0xFEFE#16, 0x3333#16), (0xFEFF#16, 0x0207#16)] with spUsr := 0xFEFD#16 }
      (fun t => [t.getReg .r0, t.getReg .r3, t.spUsr, t.pc]) = some [0x1111#16, 0x3333#16, 0xFF00#16, 0x0207#16] := by decide

/-- POP {PC}. -/
theorem test_popPc_2 :
    stepView 0xBD00#16 { start 0x0100#16 0x0010#16 [] [(0xFFFF#16, 0x0207#16)] with spUsr := 0xFFFF#16 }
      (fun t => [t.spUsr, t.pc]) = some [0x0000#16, 0x0207#16] := by decide

/-- STMIA r1!, {r0, r1, r2}. -/
theorem test_stmia_1 :
    stepView 0xC107#16 (start 0x0100#16 0x0010#16 [(.r0, 0x0011#16), (.r1, 0x3000#16), (.r2, 0x0033#16)] [])
      (fun t => [t.getReg .r1, t.readMem 0x3000#16, t.readMem 0x3001#16, t.readMem 0x3002#16, t.pc]) = some [0x3003#16, 0x0011#16, 0x3000#16, 0x0033#16, 0x0101#16] := by decide

/-- STMIA r1!, {}. -/
theorem test_stmia_2 :
    stepIllegal 0xC100#16
      (start 0x0100#16 0x0010#16 [(.r1, 0x3000#16)] []) = true := by decide

/-- LDMIA r1!, {r0, r1, r2}. -/
theorem test_ldmia_1 :
    stepView 0xC907#16 (start 0x0100#16 0x0010#16 [(.r1, 0x3000#16)] [(0x3000#16, 0x0011#16), (0x3001#16, 0x0022#16), (0x3002#16, 0x0033#16)])
      (fun t => [t.getReg .r0, t.getReg .r1, t.getReg .r2, t.pc]) = some [0x0011#16, 0x3003#16, 0x0033#16, 0x0101#16] := by decide

/-- LDMIA r7!, {}. -/
theorem test_ldmia_2 :
    stepIllegal 0xCF00#16
      (start 0x0100#16 0x0010#16 [(.r7, 0x3000#16)] []) = true := by decide

/-- BEQ $0101 (offset 0). -/
theorem test_beq_1 :
    stepView 0xD000#16 (start 0x0100#16 0x4010#16 [] [])
      (fun t => [t.pc]) = some [0x0101#16] := by decide

/-- BEQ $0106. -/
theorem test_beq_2 :
    stepView 0xD005#16 (start 0x0100#16 0xB010#16 [] [])
      (fun t => [t.pc]) = some [0x0101#16] := by decide

/-- BNE $0002. -/
theorem test_bne_1 :
    stepView 0xD1FD#16 (start 0x0004#16 0x0010#16 [] [])
      (fun t => [t.pc]) = some [0x0002#16] := by decide

/-- BNE $0002. -/
theorem test_bne_2 :
    stepView 0xD1FD#16 (start 0x0004#16 0x6010#16 [] [])
      (fun t => [t.pc]) = some [0x0005#16] := by decide

/-- BCS with `NZCV` = 0010, truth table of Format 18. -/
theorem test_bcs_1 :
    stepView 0xD202#16 (start 0x0100#16 0x2010#16 [] []) (fun t => [t.pc]) = some [0x0103#16] := by decide

/-- BCC with `NZCV` = 1101, truth table of Format 18. -/
theorem test_bcc_1 :
    stepView 0xD302#16 (start 0x0100#16 0xD010#16 [] []) (fun t => [t.pc]) = some [0x0103#16] := by decide

/-- BMI with `NZCV` = 1000, truth table of Format 18. -/
theorem test_bmi_1 :
    stepView 0xD402#16 (start 0x0100#16 0x8010#16 [] []) (fun t => [t.pc]) = some [0x0103#16] := by decide

/-- BPL with `NZCV` = 0111, truth table of Format 18. -/
theorem test_bpl_1 :
    stepView 0xD502#16 (start 0x0100#16 0x7010#16 [] []) (fun t => [t.pc]) = some [0x0103#16] := by decide

/-- BVS with `NZCV` = 0001, truth table of Format 18. -/
theorem test_bvs_1 :
    stepView 0xD602#16 (start 0x0100#16 0x1010#16 [] []) (fun t => [t.pc]) = some [0x0103#16] := by decide

/-- BVC with `NZCV` = 1110, truth table of Format 18. -/
theorem test_bvc_1 :
    stepView 0xD702#16 (start 0x0100#16 0xE010#16 [] []) (fun t => [t.pc]) = some [0x0103#16] := by decide

/-- BHI with `NZCV` = 1010, truth table of Format 18. -/
theorem test_bhi_1 :
    stepView 0xD802#16 (start 0x0100#16 0xA010#16 [] []) (fun t => [t.pc]) = some [0x0103#16] := by decide

/-- BHI with `NZCV` = 0110, truth table of Format 18. -/
theorem test_bhi_2 :
    stepView 0xD802#16 (start 0x0100#16 0x6010#16 [] []) (fun t => [t.pc]) = some [0x0101#16] := by decide

/-- BLS with `NZCV` = 0110, truth table of Format 18. -/
theorem test_bls_1 :
    stepView 0xD902#16 (start 0x0100#16 0x6010#16 [] []) (fun t => [t.pc]) = some [0x0103#16] := by decide

/-- BGE with `NZCV` = 1001, truth table of Format 18. -/
theorem test_bge_1 :
    stepView 0xDA02#16 (start 0x0100#16 0x9010#16 [] []) (fun t => [t.pc]) = some [0x0103#16] := by decide

/-- BLT with `NZCV` = 1110, truth table of Format 18. -/
theorem test_blt_1 :
    stepView 0xDB02#16 (start 0x0100#16 0xE010#16 [] []) (fun t => [t.pc]) = some [0x0103#16] := by decide

/-- BGT with `NZCV` = 1001, truth table of Format 18. -/
theorem test_bgt_1 :
    stepView 0xDC02#16 (start 0x0100#16 0x9010#16 [] []) (fun t => [t.pc]) = some [0x0103#16] := by decide

/-- BGT with `NZCV` = 0100, truth table of Format 18. -/
theorem test_bgt_2 :
    stepView 0xDC02#16 (start 0x0100#16 0x4010#16 [] []) (fun t => [t.pc]) = some [0x0101#16] := by decide

/-- BLE with `NZCV` = 0100, truth table of Format 18. -/
theorem test_ble_1 :
    stepView 0xDD02#16 (start 0x0100#16 0x4010#16 [] []) (fun t => [t.pc]) = some [0x0103#16] := by decide

/-- BLE with `NZCV` = 1001, truth table of Format 18. -/
theorem test_ble_2 :
    stepView 0xDD02#16 (start 0x0100#16 0x9010#16 [] []) (fun t => [t.pc]) = some [0x0101#16] := by decide

/-- (cccc = 1110). -/
theorem test_illegalCond1110_1 :
    stepIllegal 0xDE00#16
      (start 0x0100#16 0x0010#16 [] []) = true := by decide

/-- (cccc = 1110). -/
theorem test_illegalCond1110_2 :
    stepIllegal 0xDEFF#16
      (start 0x0100#16 0xF010#16 [] []) = true := by decide

/-- SWI $42. -/
theorem test_swi_1 :
    stepView 0xDF42#16 (start 0x0204#16 0x6090#16 [] [])
      (fun t => [t.lrSwi, t.spsrSwi, t.pc, t.cpsr.toWord]) = some [0x0205#16, 0x6090#16, 0x0010#16, 0x0011#16] := by decide

/-- SWI 255. -/
theorem test_swi_2 :
    stepView 0xDFFF#16 { start 0xFFFF#16 0x8012#16 [] [] with lrSwi := 0x1234#16 }
      (fun t => [t.lrSwi, t.spsrSwi, t.pc, t.cpsr.toWord]) = some [0x0000#16, 0x8012#16, 0x0010#16, 0x0011#16] := by decide

/-- B $001D. -/
theorem test_b_1 :
    stepView 0xE7FC#16 (start 0x0020#16 0x0010#16 [] [])
      (fun t => [t.pc]) = some [0x001D#16] := by decide

/-- B $0002. -/
theorem test_b_2 :
    stepView 0xE002#16 (start 0xFFFF#16 0x0010#16 [] [])
      (fun t => [t.pc]) = some [0x0002#16] := by decide

/-- BL $1234 (low half). -/
theorem test_blLo_1 :
    stepView 0xF034#16 { start 0x0301#16 0x0010#16 [] [] with lrUsr := 0x1200#16 }
      (fun t => [t.lrUsr, t.pc]) = some [0x0302#16, 0x1234#16] := by decide

/-- BL $1234 (high half). -/
theorem test_blHi_1 :
    stepView 0xF412#16 { start 0x0300#16 0x0010#16 [] [] with lrUsr := 0xFFFF#16 }
      (fun t => [t.lrUsr, t.pc]) = some [0x1200#16, 0x0301#16] := by decide

/-- BL $0123. -/
theorem test_blImm_1 :
    stepView 0xF923#16 (start 0x0300#16 0x0010#16 [] [])
      (fun t => [t.lrUsr, t.pc]) = some [0x0301#16, 0x0123#16] := by decide

/-- BL $07FF. -/
theorem test_blImm_2 :
    stepView 0xFFFF#16 (start 0x0300#16 0x0011#16 [] [])
      (fun t => [t.lrSwi, t.pc]) = some [0x0301#16, 0x07FF#16] := by decide

/-- The last word of each illegal or unallocated row, don't-care bits set. -/
theorem test_illegal_rows :
    ([0x47FF#16, 0x45FF#16, 0x5FFF#16, 0x8FFF#16, 0xB1FF#16, 0xB2FF#16, 0xB3FF#16, 0xB6FF#16, 0xB7FF#16, 0xB8FF#16,
    0xB9FF#16, 0xBAFF#16, 0xBBFF#16, 0xBEFF#16, 0xBFFF#16, 0xEFFF#16].all (fun w => stepIllegal w (start 0x0100#16
    0x0010#16 [] []))) = true := by decide

/-! ## Devices (Config's parameters are open) -/

/-- HWN r7 at any device count. -/
theorem test_hwn_1 : stepView 0x469F#16 (start 0x0100#16 0x0010#16 [(.r7, 0x9999#16)] [])
    (fun t => [t.getReg .r7, t.pc]) = some [Config.deviceCount, 0x0101#16] := rfl

/-- HWQ r5 of device $FFFF, which never exists: r0..r4 become 0, r5 stays. -/
theorem test_hwq_1 : (match exec (.hwq .r5) (start 0x0100#16 0x0010#16 [(.r0, 0x9999#16), (.r5, 0xFFFF#16)] []) with
    | .next t => some [t.getReg .r0, t.getReg .r4, t.getReg .r5]
    | _ => none) = some [0x0000#16, 0x0000#16, 0xFFFF#16] := by
  have h : devicePresent 0xFFFF#16 = false := devicePresent_last
  simp only [exec, execHwq, queryAnswer]
  rw [show (start 0x0100#16 0x0010#16 [(.r0, 0x9999#16), (.r5, 0xFFFF#16)] []).getReg .r5 = 0xFFFF#16 from rfl, h]
  decide

/-- HWI r2 of device $FFFF changes nothing. -/
theorem test_hwi_1 : exec (.hwi .r2) (start 0x0100#16 0x0010#16 [(.r2, 0xFFFF#16)] []) =
    .next (start 0x0100#16 0x0010#16 [(.r2, 0xFFFF#16)] []) :=
  congrArg Host.Outcome.next (State.signalDevice_of_absent _ _ devicePresent_last)

/-! ## Interrupts and faults, from 95_test_vectors.md "IRQ entry and return" -/

/-- A device writes a word and offers message $0005; once the offer is taken its state is 2, until then 1. -/
def irqTick : DeviceTick :=
  { writes := [(0x4000#16, 0x0007#16)]
    devState := [0x0001#16]
    offer := some { message := 0x0005#16, taken := [0x0002#16] } }

/-- Between two instructions, `I` = 1. -/
def irqState : State :=
  { start 0x0123#16 0x2090#16 [(.r0, 0xBEEF#16)] [] with spIrq := 0xF000#16, boundary := true }

/-- The same with `I` = 0 and an IFS at `pc`. -/
def irqDisabledState : State := { (irqState.writeMem 0x0123#16 0x4740#16) with cpsr := { irqState.cpsr with i := false } }

theorem test_irq_entry : (match stepWith irqTick irqState with
    | .next t => some [t.spsrIrq, t.lrIrq, t.cpsr.toWord, t.spIrq, t.readMem 0xEFFF#16, t.getReg .r0]
    | _ => none) = some [0x2090#16, 0x0123#16, 0x0012#16, 0xEFFF#16, 0xBEEF#16, 0x0005#16] := by decide

theorem test_irq_offer_consumed : (match stepWith irqTick irqState with
    | .next t => some t.devState
    | _ => none) = some [0x0002#16] := by decide

theorem test_irq_disabled : (match stepWith irqTick irqDisabledState with
    | .next t => some [t.pc, t.cpsr.toWord, t.readMem 0x4000#16]
    | _ => none) = some [0x0124#16, 0x2090#16, 0x0007#16] := by decide

theorem test_irq_not_taken_keeps_device_state : (match stepWith irqTick irqDisabledState with
    | .next t => some t.devState
    | _ => none) = some [0x0001#16] := by decide

/-- IFS, the first instruction after reset, leaves the machine where the devices are consulted next, with `I` = 1. -/
theorem test_ifs_opens_the_boundary : (match step (State.reset.withFetchWord 16 0x4740) with
    | .next t => some (t.boundary, t.cpsr.i)
    | _ => none) = some (true, true) := by decide

theorem test_rfi_reserved : exec .rfi { State.reset with pc := 0x0101#16, spsrIrq := 0x0013#16 } =
    .fault (.reservedMode 0x0100#16 0x0013#16) := rfl

theorem test_rsi_reserved : exec .rsi { State.reset with pc := 0x0101#16, spsrSwi := 0x0000#16 } =
    .fault (.reservedMode 0x0100#16 0x0000#16) := rfl

/-! ## The host's two entry points -/

theorem test_table_word : decodeTableWord 16 0xC925 = some (.ldmia .r1 0x25#8) := by decide

theorem test_first_step_after_reset : (match step (State.reset.withFetchWord 16 0x27FF) with
    | .next t => some [t.getReg .r7, t.pc]
    | _ => none) = some [0x00FF#16, 0x0001#16] := by decide

/-! ## Witnesses: the hypotheses of each statement hold together somewhere -/

theorem witness_EveryWordBelongsToExactlyOneRow :
    0x0108#16 &&& rowMask (.lslImm .r7 .r7 0x1F#5) = rowMatch (.lslImm .r7 .r7 0x1F#5) := by decide

theorem witness_DontCareBitsAreAllThatDecodingDrops :
    0x463B#16 ≠ 0x4603#16 ∧ 0x463B#16 &&& careMask (decode 0x4603#16) = 0x4603#16 &&& careMask (decode 0x4603#16) := by
  decide

theorem witness_StepRunsTheDecodedInstruction : irqDisabledState.takenInterrupt irqTick = none ∧
    decode ((irqDisabledState.afterTick irqTick).readMem irqDisabledState.pc) = .ifs ∧
    irqState.takenInterrupt (DeviceTick.quiet []) = none ∧ State.reset.boundary = false ∧
    decode (State.reset.readMem State.reset.pc) = .lslImm .r0 .r0 0#5 := by decide

theorem witness_DisabledInterruptsAreNeverTaken : irqDisabledState.cpsr.i = false ∧ irqTick.offer.isSome = true := by
  decide

theorem witness_EnabledInterruptIsTakenAtTheBoundary : irqState.cpsr.i = true ∧
    irqTick.offer = some { message := 0x0005#16, taken := [0x0002#16] } := by decide

theorem witness_DevicesBetweenInstructionsTouchOnlyMemoryAndThemselves :
    irqTick.writes = [(0x4000#16, 0x0007#16)] ∧ 0x4000#16 ≠ 0xFFFF#16 := by decide

/-- A first instruction completes, and so does one on its own. -/
theorem witness_DevicesActOnlyWhereConnectedAndBetweenInstructions :
    completes (step (State.reset.withFetchWord 16 0x27FF)) = true ∧ completes (exec .ifs irqState) = true := by decide

theorem witness_DoubleWordAddAndSubtract : Reg.r0 ≠ Reg.r1 ∧ Reg.r0 ≠ Reg.r3 := by decide

theorem witness_CanonicalMemoriesThatReadAlikeAreEqual :
    Memory.wf [(0, 0x0001#16), (65535, 0xFFFF#16)] = true ∧
      Memory.writeAll [] [(0xFFFF#16, 0xFFFF#16), (0x0000#16, 0x0001#16)] = [(0, 0x0001#16), (65535, 0xFFFF#16)] := by
  decide

theorem witness_EveryStepKeepsMemoryCanonical : (State.reset.withFetchWord 16 0x60C8).mem.wf = true ∧
    completes (step (State.reset.withFetchWord 16 0x60C8)) = true := by decide

theorem witness_PostIncrementLoadsWriteTheBaseLast : Reg.r1 ≠ Reg.r0 := by decide

/-- The word at `pc` is the one an instruction stores: each STR, the first and the last word of a push and of STMIA. -/
def storeState : State :=
  { start 0x0101#16 0x0010#16 [(.r0, 0xE7FF#16), (.r1, 0x0101#16), (.r2, 0x0000#16), (.r7, 0x0100#16)] [] with
    spUsr := 0x0103#16 }

theorem witness_StoreIsSeenByTheNextFetch :
    (storeState.pc, 0xE7FF#16) ∈ storesOf (.strReg .r0 .r1 .r2) storeState ∧
    (storeState.pc, 0xE7FF#16) ∈ storesOf (.strRegPost .r0 .r1 .r2) storeState ∧
    (storeState.pc, 0xE7FF#16) ∈ storesOf (.strImm .r0 .r7 1#5) storeState ∧
    (storeState.pc, 0xE7FF#16) ∈ storesOf (.strImmPost .r0 .r1 31#5) storeState ∧
    (storeState.pc, 0x0101#16) ∈ storesOf (.strSp .r1 0#8) { storeState with spUsr := 0x0101#16 } ∧
    (storeState.pc, 0xE7FF#16) ∈ storesOf (.push 0x03#8) storeState ∧
    (storeState.pc, 0x0000#16) ∈ storesOf (.pushLr 0x01#8) { storeState with spUsr := 0x0102#16 } ∧
    (storeState.pc, 0xE7FF#16) ∈ storesOf (.stmia .r1 0x81#8) storeState ∧
    (storeState.pc, 0x0100#16) ∈ storesOf (.stmia .r7 0x81#8) storeState ∧
    storeState.takenInterrupt irqTick = none ∧ 0x4000#16 ≠ storeState.pc := by
  refine ⟨?_, ?_, ?_, ?_, ?_, ?_, ?_, ?_, ?_, ?_, ?_⟩ <;> decide

theorem witness_RegisterListsOfEveryLength : listedRegs 0x00#8 = [] ∧ listedRegs 0x80#8 = [.r7] ∧
    listedRegs 0x81#8 = [.r0, .r7] ∧ (listedRegs 0xFF#8).length = 8 := by decide

/-- PUSH of the empty list, of one register and of all with LR. -/
theorem witness_PushStoresTheListBelowTheStackPointer :
    (State.reset.getRegs (listedRegs 0x00#8)).length = 0 ∧ 0 < (State.reset.getRegs (listedRegs 0x01#8)).length ∧
      8 < (State.reset.getRegs (listedRegs 0xFF#8) ++ [State.reset.lr]).length := by decide

theorem witness_PopLoadsTheListFromTheStackPointer :
    0 < (listedRegs 0x80#8).length ∧ 7 < (listedRegs 0xFF#8).length := by decide

/-- A later state that still holds the pushed words: everything but memory and SP has changed. -/
theorem witness_PopRestoresWhatPushSaved : Reg.r3 ∈ listedRegs 0x09#8 ∧
    ({ State.reset.pushWords [0x1111#16, 0x3333#16, 0x0207#16] with pc := 0x4000#16, lrUsr := 0x0001#16 } : State).mem =
      (State.reset.pushWords [0x1111#16, 0x3333#16, 0x0207#16]).mem := by decide

theorem witness_StoreMultipleStoresTheListUpward : (0x80#8 : BitVec 8) ≠ 0x00#8 ∧ 0 < (listedRegs 0x80#8).length ∧
    (0x00#8 : BitVec 8) = 0#8 := by decide

theorem witness_LoadMultipleLoadsTheListUpward : (0x81#8 : BitVec 8) ≠ 0x00#8 ∧
    (listedRegs 0x81#8)[0]? = some .r0 ∧ Reg.r0 ≠ Reg.r7 := by decide

/-- The three modes and their neighbours $0F and $13, flags and reserved bits set. -/
theorem witness_ReturnFromSoftwareInterrupt : validStatus 0xFFF0#16 = true ∧ validStatus 0x0011#16 = true ∧
    validStatus 0x0F72#16 = true ∧ validStatus 0x000F#16 = false ∧ validStatus 0x0013#16 = false := by decide

theorem witness_ReturnFromHardwareInterrupt :
    ({ State.reset with spsrIrq := 0x2090#16 } : State).spsrIrq = 0x2090#16 ∧ validStatus 0x2090#16 = true ∧
      validStatus 0x0000#16 = false ∧ validStatus 0xFFFF#16 = false := by decide

theorem witness_SavedStatusMovesInPrivilegedModes : (start 0 0x0011#16 [] []).cpsr.m = .swi ∧
    (start 0 0x0012#16 [] []).cpsr.m = .irq ∧ (start 0 0x0010#16 [] []).cpsr.m = .user := by decide

theorem witness_StatusWordConversionsAgree :
    (Cpsr.ofWord 0xFF70#16).map Cpsr.toWord = some 0xF010#16 ∧ Cpsr.ofWord 0x0013#16 = none ∧
      Cpsr.ofWord 0x0092#16 = some { Config.irqCpsr with i := true } := by decide

/-- A handler's state: other registers and another `pc`, the saved registers as SWI left them. -/
theorem witness_SoftwareInterruptAndReturnRestoreTheCaller :
    ({ irqState.enterSwi with pc := 0x0020#16, regs := State.reset.regs } : State).lrSwi = irqState.enterSwi.lrSwi ∧
      ({ irqState.enterSwi with pc := 0x0020#16, regs := State.reset.regs } : State).spsrSwi =
        irqState.enterSwi.spsrSwi := ⟨rfl, rfl⟩

/-- A handler's state: another r0 and `pc`, SP_irq, LR_irq, SPSR_irq and the pushed word as the entry left them. -/
theorem witness_ReturnFromInterruptRestoresR0SpStatusAndPc :
    ({ irqState.enterIrq 0x0005#16 with pc := 0x0020#16, regs := State.reset.regs } : State).spIrq =
        (irqState.enterIrq 0x0005#16).spIrq ∧
      ({ irqState.enterIrq 0x0005#16 with pc := 0x0020#16, regs := State.reset.regs } : State).lrIrq =
        (irqState.enterIrq 0x0005#16).lrIrq ∧
      ({ irqState.enterIrq 0x0005#16 with pc := 0x0020#16, regs := State.reset.regs } : State).spsrIrq =
        (irqState.enterIrq 0x0005#16).spsrIrq ∧
      ({ irqState.enterIrq 0x0005#16 with pc := 0x0020#16, regs := State.reset.regs } : State).readMem
          (irqState.enterIrq 0x0005#16).spIrq =
        (irqState.enterIrq 0x0005#16).readMem (irqState.enterIrq 0x0005#16).spIrq := ⟨rfl, rfl, rfl, rfl⟩

theorem witness_InstructionsCompleteExactlyWhenExecutable : executable (.mrs .r0) (start 0 0x0011#16 [] []) = true ∧
    executable (.mrs .r0) State.reset = false ∧ executable (.ldmia .r0 0x00#8) State.reset = false ∧
      executable .rsi State.reset = false ∧ executable .illegalF6 State.reset = false := by decide

theorem witness_EveryStopIsOneOfTheTwoModelFaults :
    exec .unusedF12 State.reset = .fault (.illegalInstruction 0xFFFF#16 0x0000#16) ∧
      exec .rsi State.reset = .fault (.reservedMode 0xFFFF#16 0x0000#16) ∧
      exec .rfi State.reset = .fault (.reservedMode 0xFFFF#16 0x0000#16) := ⟨rfl, rfl, rfl⟩

theorem witness_IllegalRowsStopWithIllegalInstruction : Instr.unallocated11101 ∈ [Instr.illegalF6, .unallocated11101] := by
  decide

/-- The word $46FF (don't-care bits set) and LDMIA with an empty list at `pc`. -/
theorem witness_StepStopsAtAnIllegalWord :
    (start 0x0100#16 0x0010#16 [] [(0x0100#16, 0x46FF#16)]).takenInterrupt irqTick = none ∧
      (decode (((start 0x0100#16 0x0010#16 [] [(0x0100#16, 0x46FF#16)]).afterTick irqTick).readMem 0x0100#16)).wellFormed =
        false ∧
      (decode (((start 0x0100#16 0x0010#16 [] [(0x0100#16, 0xCF00#16)]).afterTick irqTick).readMem 0x0100#16)).wellFormed =
        false := by
  decide

/-- SWI from User mode with `I` = 1 changes the mode and `I`; IFS changes `I` alone. -/
theorem witness_ModeAndInterruptFlagChangeOnlyByNamedInstructions :
    completes (exec (.swi 0#8) irqState) = true ∧ irqState.enterSwi.cpsr.m ≠ irqState.cpsr.m ∧
      irqState.enterSwi.cpsr.i ≠ irqState.cpsr.i ∧ completes (exec .ifs State.reset) = true := by decide

/-- CMP r0, r0 at reset sets `Z` and `C`. -/
theorem witness_ConditionCodesChangeOnlyInFormats1To4AndBySwiRsiRfi :
    (match exec (.cmpReg .r0 .r0) State.reset with | .next t => t.cpsr.z != State.reset.cpsr.z | _ => false) = true := by
  decide

/-- PUSH changes a stack pointer, BLX a link register, MRS each saved status, BX `pc`. -/
theorem witness_BankedRegistersChangeOnlyByNamedInstructions :
    (match exec (.push 0x01#8) State.reset with | .next t => t.spUsr != State.reset.spUsr | _ => false) = true ∧
    (match exec (.blx .r0) { State.reset with pc := 1 } with | .next t => t.lrUsr != 0 && t.pc != 1 | _ => false) = true ∧
    (match exec (.mrs .r0) (start 0 0x0011#16 [(.r0, 1)] []) with | .next t => t.spsrSwi != 0 | _ => false) = true ∧
    (match exec (.mrs .r0) (start 0 0x0012#16 [(.r0, 1)] []) with | .next t => t.spsrIrq != 0 | _ => false) = true := by
  refine ⟨?_, ?_, ?_, ?_⟩ <;> decide

/-- A store that changes a word. -/
theorem witness_MemoryChangesOnlyByStoresAndHwi :
    (match exec (.strImm .r0 .r1 0#5) (start 0 0x0010#16 [(.r0, 1)] []) with
      | .next t => t.readMem 0 != (start 0 0x0010#16 [(.r0, 1)] []).readMem 0
      | _ => false) = true := by decide

/-- The device number that never exists. What a present device writes is open, so that an address outside its writes
cannot be named; every address is outside the writes of a device that writes nothing. -/
theorem witness_DeviceSignalKeepsToItsFootprint : (start 0 0x0010#16 [(.r2, 0xFFFF#16)] []).getReg .r2 = 0xFFFF#16 ∧
    ∀ w ∈ ([] : List (Word × Word)), w.1 ≠ 0x4001#16 := ⟨rfl, by simp⟩

end Sys2Proof.Tests
end

section
/-! PROOFS. The status word (10_state.md section 5): its bits, and the two conversions between it and `CPSR`. -/

namespace Sys2Proof.Machine

open Sys2Proof.Claims

/-! ## The status word, bit by bit (R30, R31, R35) -/

theorem getElem_flagAt (b : Bool) (k j : Nat) (hj : j < 16) : (flagAt b k)[j] = (decide (j = k) && b) := by
  by_cases hlt : j < k
  · simp [flagAt, hlt, hlt.ne]
  · have hk : j - k = 0 ↔ j = k := by omega
    simp [flagAt, hlt, BitVec.getLsbD_ofBool, hk]

/-- The mode field of a status word, as a number (R31). -/
theorem setWidth_five_eq_modeCode_iff (w : Word) (m : Mode) :
    w.setWidth 5 = Config.modeCode m ↔ w.toNat % 32 = (Config.modeCode m).toNat := by
  rw [← BitVec.toNat_inj, BitVec.toNat_setWidth]

/-- Bit `j` of `word(CPSR)`: a flag at its place, the mode code in bits 4..0, 0 elsewhere. -/
theorem Cpsr.getElem_toWord (p : Cpsr) (j : Nat) (hj : j < 16) :
    p.toWord[j] = (decide (j = 15) && p.n || decide (j = 14) && p.z || decide (j = 13) && p.c ||
      decide (j = 12) && p.v || decide (j = 7) && p.i || (Config.modeCode p.m).getLsbD j) := by
  simp [Cpsr.toWord, getElem_flagAt, Config.cpsrLayout]

/-- The low five bits of `word(CPSR)` are its mode's code. -/
theorem Cpsr.setWidth_toWord (p : Cpsr) : p.toWord.setWidth 5 = Config.modeCode p.m := by
  ext j hj
  rw [BitVec.getElem_setWidth, BitVec.getLsbD_eq_getElem (by omega), Cpsr.getElem_toWord]
  simp [BitVec.getLsbD_eq_getElem hj, show j ≠ 15 by omega, show j ≠ 14 by omega, show j ≠ 13 by omega,
    show j ≠ 12 by omega, show j ≠ 7 by omega]

/-- A word converts to the record of its bits, where its mode field is that record's mode. -/
theorem Cpsr.ofWord_eq_some_iff (w : Word) (p : Cpsr) :
    Cpsr.ofWord w = some p ↔ w.setWidth 5 = Config.modeCode p.m ∧ p.n = w.getLsbD 15 ∧ p.z = w.getLsbD 14 ∧
      p.c = w.getLsbD 13 ∧ p.v = w.getLsbD 12 ∧ p.i = w.getLsbD 7 := by
  rw [← modeOfCode_eq_some_iff]
  unfold Cpsr.ofWord
  cases modeOfCode (w.setWidth 5) with
  | none => simp
  | some m =>
    obtain ⟨n, z, c, v, i, m'⟩ := p
    simp only [Config.cpsrLayout, Option.some.injEq, Cpsr.mk.injEq]
    tauto

theorem Cpsr.ofWord_toWord (p : Cpsr) : Cpsr.ofWord p.toWord = some p := by
  rw [Cpsr.ofWord_eq_some_iff]
  refine ⟨p.setWidth_toWord, ?_, ?_, ?_, ?_, ?_⟩ <;> simp [Cpsr.getElem_toWord]

/-- The reserved bits 11..8 and 6..5 of `word(CPSR)` are 0 (R30, R35). -/
theorem Cpsr.toWord_and_reserved (p : Cpsr) : p.toWord &&& 0x0F60#16 = 0#16 := by
  ext j hj
  rw [BitVec.getElem_and, Cpsr.getElem_toWord]
  interval_cases j <;> simp

/-- A word that converts comes back without its reserved bits (R35). -/
theorem Cpsr.toWord_of_ofWord_eq_some {w : Word} {p : Cpsr} (h : Cpsr.ofWord w = some p) :
    p.toWord = w &&& 0xF09F#16 := by
  obtain ⟨hm, hn, hz, hc, hv, hi⟩ := (Cpsr.ofWord_eq_some_iff w p).1 h
  ext j hj
  rw [BitVec.getElem_and, Cpsr.getElem_toWord, ← hm, hn, hz, hc, hv, hi]
  interval_cases j <;> simp [BitVec.getLsbD_eq_getElem]

/-- A word converts exactly where its mode field names a mode (R31, R35). -/
theorem Cpsr.isSome_ofWord (w : Word) : (Cpsr.ofWord w).isSome = validStatus w := by
  have hmode : (Cpsr.ofWord w).isSome = true ↔ ∃ m, w.setWidth 5 = Config.modeCode m := by
    simp only [← modeOfCode_eq_some_iff, ← Option.isSome_iff_exists]
    unfold Cpsr.ofWord
    cases modeOfCode (w.setWidth 5) <;> simp
  rw [Bool.eq_iff_iff, hmode]
  constructor
  · rintro ⟨m, hm⟩
    rw [setWidth_five_eq_modeCode_iff] at hm
    cases m <;> simp [validStatus, hm, Config.modeCode]
  · intro hv
    simp only [validStatus, Bool.or_eq_true, beq_iff_eq] at hv
    obtain (h | h) | h := hv
    · exact ⟨.user, (setWidth_five_eq_modeCode_iff w .user).2 h⟩
    · exact ⟨.swi, (setWidth_five_eq_modeCode_iff w .swi).2 h⟩
    · exact ⟨.irq, (setWidth_five_eq_modeCode_iff w .irq).2 h⟩

/-- Settles O47: both directions, by the bits of the status word. -/
theorem statusWordConversionsAgree : Obligations.StatusWordConversionsAgree :=
  ⟨fun p => ⟨p.ofWord_toWord, p.toWord_and_reserved⟩,
    fun w => ⟨Cpsr.isSome_ofWord w, fun _ => Cpsr.toWord_of_ofWord_eq_some⟩⟩

end Sys2Proof.Machine
end

section
/-! PROOFS. What an instruction can do: `Effect` lists the forms a next state can have, and `exec_effect` says that
every instruction that completes has one of them. Claims about what instructions change follow by cases on the effect. -/

namespace Sys2Proof.Machine

open Sys2Proof.Claims

/-! ## Multi-word stores as single writes (R68) -/

@[simp] theorem wordsAt_cons (a v : Word) (vs : List Word) :
    wordsAt a (v :: vs) = (a, v) :: wordsAt (a + 1#16) vs := by
  simp [wordsAt, List.mapIdx_cons, add_one_add_ofNat]

theorem Memory.storeWords_eq_writeAll (m : Memory) (a : Word) (vs : List Word) :
    m.storeWords a vs = m.writeAll (wordsAt a vs) := by
  induction vs generalizing m a with
  | nil => rfl
  | cons v rest ih => simp [Memory.writeAll, ih]

theorem State.setSp_setSp (s : State) (v w : Word) : (s.setSp v).setSp w = s.setSp w := by
  unfold State.setSp
  cases h : s.cpsr.m <;> simp [h]

theorem State.pushWords_eq (s : State) (vs : List Word) :
    s.pushWords vs =
      State.setSp { s with mem := s.mem.writeAll (wordsAt (s.sp - BitVec.ofNat 16 vs.length) vs) }
        (s.sp - BitVec.ofNat 16 vs.length) := by
  rw [State.pushWords, Memory.storeWords_eq_writeAll]

/-! ## What an instruction can do -/

/-- The next states an instruction can give from `s`. Memory is always what the stores of the instruction's own rule
make of it (`storesOf`), but for `HWI`. -/
inductive Effect (s : State) : Instr → State → Prop
  /-- Formats 1 to 4: general registers and condition codes. -/
  | data {i : Instr} (hi : setsFlags i = true) (g : Regs) (p : Cpsr) (hI : p.i = s.cpsr.i) (hm : p.m = s.cpsr.m) :
      Effect s i { s with regs := g, cpsr := p }
  /-- Loads, stores, `HWN`, `HWQ`, `MSR`, the addresses of Format 14, `HWI` of an absent device: general registers and
  the stored words. -/
  | access {i : Instr} (g : Regs) : Effect s i { s with regs := g, mem := s.mem.writeAll (storesOf i s) }
  /-- A present device is signalled. -/
  | device (rd : Reg) (e : HwiEffect) : Effect s (.hwi rd) (s.applyHwi e)
  /-- `BX`, `B` and the conditional branches. -/
  | jump {i : Instr} (hpc : writesPc i = true) (w : Word) : Effect s i (s.branchTo w)
  /-- The high half of `BL`. -/
  | link {i : Instr} (hlr : writesLr i = true) (v : Word) : Effect s i (s.setLr v)
  /-- `BLX`, `BL` in one word, the low half of `BL`. -/
  | call {i : Instr} (hlr : writesLr i = true) (hpc : writesPc i = true) (v w : Word) :
      Effect s i ((s.setLr v).branchTo w)
  /-- `ADD`/`SUB` of `SP`, `PUSH`, `POP` without `PC`: the current stack pointer, registers and the stored words. -/
  | stack {i : Instr} (hsp : writesSp i = true) (g : Regs) (v : Word) :
      Effect s i (State.setSp { s with regs := g, mem := s.mem.writeAll (storesOf i s) } v)
  | popPc (rlist : BitVec 8) (g : Regs) (v w : Word) :
      Effect s (.popPc rlist) ((State.setSp { s with regs := g } v).branchTo w)
  | swi (imm8 : BitVec 8) : Effect s (.swi imm8) s.enterSwi
  | rsi (p : Cpsr) (h : Cpsr.ofWord s.spsrSwi = some p) : Effect s .rsi { s with cpsr := p, pc := s.lrSwi }
  | rfi (p : Cpsr) (h : Cpsr.ofWord s.spsrIrq = some p) :
      Effect s .rfi
        { s with regs := s.regs.set .r0 (s.readMem s.spIrq), spIrq := s.spIrq + 1#16, cpsr := p, pc := s.lrIrq }
  | ifs : Effect s .ifs { s with cpsr := { s.cpsr with i := true } }
  | ifc : Effect s .ifc { s with cpsr := { s.cpsr with i := false } }
  | mrsSwi (rd : Reg) (hm : s.cpsr.m = .swi) : Effect s (.mrs rd) { s with spsrSwi := s.getReg rd }
  | mrsIrq (rd : Reg) (hm : s.cpsr.m = .irq) : Effect s (.mrs rd) { s with spsrIrq := s.getReg rd }

/-! ### The operations that choose between effects, and the rows that store through `zext` -/

theorem Effect.branchIf {s : State} {i : Instr} (hpc : writesPc i = true) (k : Cond) (imm8 : BitVec 8) :
    Effect s i (s.branchIf k imm8) := by
  rw [State.branchIf_eq]
  exact .jump hpc _

theorem Effect.signalDevice (s : State) (rd : Reg) : Effect s (.hwi rd) (s.signalDevice (s.getReg rd)) := by
  cases h : devicePresent (s.getReg rd) with
  | false => rw [s.signalDevice_of_absent _ h]; exact .access s.regs
  | true => rw [s.signalDevice_of_present _ h]; exact .device rd _

theorem Effect.of_execMrs {s t : State} {rd : Reg} (h : execMrs rd s = .next t) : Effect s (.mrs rd) t := by
  unfold execMrs at h
  cases hs : s.setSpsr (s.getReg rd) with
  | none => rw [hs] at h; exact absurd h (s.raiseIllegal_ne_next t)
  | some u =>
    rw [hs] at h
    obtain rfl : u = t := Host.Outcome.next.inj h
    obtain ⟨hm, rfl⟩ | ⟨hm, rfl⟩ := (s.setSpsr_eq_some_iff u _).1 hs
    · exact .mrsSwi rd hm
    · exact .mrsIrq rd hm

theorem Effect.of_execMsr {s t : State} {rd : Reg} (h : execMsr rd s = .next t) : Effect s (.msr rd) t := by
  unfold execMsr at h
  cases hs : s.spsr with
  | none => rw [hs] at h; exact absurd h (s.raiseIllegal_ne_next t)
  | some w =>
    rw [hs] at h
    obtain rfl : s.setReg rd w = t := Host.Outcome.next.inj h
    exact .access _

theorem Effect.of_execStmia {s t : State} {rb : Reg} {rlist : BitVec 8} (h : execStmia rb rlist s = .next t) :
    Effect s (.stmia rb rlist) t := by
  unfold execStmia at h
  split at h
  · exact absurd h (s.raiseIllegal_ne_next t)
  · obtain rfl := Host.Outcome.next.inj h
    rw [Memory.storeWords_eq_writeAll]
    exact .access _

theorem Effect.of_execLdmia {s t : State} {rb : Reg} {rlist : BitVec 8} (h : execLdmia rb rlist s = .next t) :
    Effect s (.ldmia rb rlist) t := by
  unfold execLdmia at h
  split at h
  · exact absurd h (s.raiseIllegal_ne_next t)
  · obtain rfl := Host.Outcome.next.inj h
    exact .access _

theorem Effect.strImm (s : State) (rd rb : Reg) (imm5 : BitVec 5) :
    Effect s (.strImm rd rb imm5) (s.writeMem (s.getReg rb + zext imm5) (s.getReg rd)) := by
  rw [zext_eq]
  exact .access s.regs

theorem Effect.strSp (s : State) (rd : Reg) (imm8 : BitVec 8) :
    Effect s (.strSp rd imm8) (s.writeMem (s.sp + zext imm8) (s.getReg rd)) := by
  rw [zext_eq]
  exact .access s.regs

theorem Effect.push (s : State) (rlist : BitVec 8) :
    Effect s (.push rlist) (s.pushWords (s.getRegs (listedRegs rlist))) := by
  rw [State.pushWords_eq, State.getRegs_length]
  exact .stack rfl s.regs _

theorem Effect.pushLr (s : State) (rlist : BitVec 8) :
    Effect s (.pushLr rlist) (s.pushWords (s.getRegs (listedRegs rlist) ++ [s.lr])) := by
  rw [State.pushWords_eq, List.length_append, State.getRegs_length]
  exact .stack rfl s.regs _

/-- An instruction that completes has one of these effects. -/
theorem exec_effect {i : Instr} {s t : State} (h : exec i s = .next t) : Effect s i t := by
  cases i with
  | lslImm | lsrImm | asrImm | addReg | subReg | addImm3 | subImm3 | movImm | cmpImm | addImm8 | subImm8 | and | eor
  | lslReg | lsrReg | asrReg | adc | sbc | ror | tst | neg | cmpReg | cmn | orr | mul | bic | mvn =>
    obtain rfl := Host.Outcome.next.inj h
    exact .data rfl _ _ rfl rfl
  | hwn | hwq | ldrPc | strReg | strRegPost | ldrReg | ldrRegPost | strImmPost | ldrImm | ldrImmPost | ldrSp
  | addPc | addSp =>
    obtain rfl := Host.Outcome.next.inj h
    exact .access _
  | bx | b => obtain rfl := Host.Outcome.next.inj h; exact .jump rfl _
  | beq | bne | bcs | bcc | bmi | bpl | bvs | bvc | bhi | bls | bge | blt | bgt | ble =>
    obtain rfl := Host.Outcome.next.inj h
    exact .branchIf rfl _ _
  | blHi => obtain rfl := Host.Outcome.next.inj h; exact .link rfl _
  | blx | blLo | blImm => obtain rfl := Host.Outcome.next.inj h; exact .call rfl rfl _ _
  | addSpImm | subSpImm | pop => obtain rfl := Host.Outcome.next.inj h; exact .stack rfl _ _
  | popPc =>
    obtain rfl := Host.Outcome.next.inj h
    rw [State.popRegs, State.setSp_setSp]
    exact .popPc _ _ _ _
  | strImm => obtain rfl := Host.Outcome.next.inj h; exact .strImm s _ _ _
  | strSp => obtain rfl := Host.Outcome.next.inj h; exact .strSp s _ _
  | push => obtain rfl := Host.Outcome.next.inj h; exact .push s _
  | pushLr => obtain rfl := Host.Outcome.next.inj h; exact .pushLr s _
  | hwi => obtain rfl := Host.Outcome.next.inj h; exact .signalDevice s _
  | swi => obtain rfl := Host.Outcome.next.inj h; exact .swi _
  | ifs => obtain rfl := Host.Outcome.next.inj h; exact .ifs
  | ifc => obtain rfl := Host.Outcome.next.inj h; exact .ifc
  | rsi =>
    obtain ⟨p, hp, rfl⟩ := (s.returnFromSwi_eq_next_iff t).1 h
    exact .rsi p hp
  | rfi =>
    obtain ⟨p, hp, rfl⟩ := (s.returnFromIrq_eq_next_iff t).1 h
    exact .rfi p hp
  | mrs => exact .of_execMrs h
  | msr => exact .of_execMsr h
  | stmia => exact .of_execStmia h
  | ldmia => exact .of_execLdmia h
  | illegalF6 | illegalF7 | unallocated0100010 | unusedF10 | unusedF12 | unallocated1011x0001 | unallocated1011x0010
  | unallocated1011x0011 | unallocated1011x0110 | unallocated1011x0111 | unallocated1011x1000 | unallocated1011x1001
  | unallocated1011x1010 | unallocated1011x1011 | unallocated1011x1110 | unallocated1011x1111 | illegalCond1110
  | unallocated11101 => exact absurd h (s.raiseIllegal_ne_next t)

end Sys2Proof.Machine
end

section
/-! PROOFS. What the instructions keep (10_state.md sections 2, 4 and 5), what a step runs (section 3), and the state
after reset (section 8). -/

namespace Sys2Proof.Machine

open Sys2Proof.Claims

/-! ### What each effect keeps, unless the spec lists the instruction -/

section
variable {i : Instr} {s t : State}

theorem Effect.keepsFlags_or_setsFlags (h : Effect s i t) :
    (t.cpsr.n = s.cpsr.n ∧ t.cpsr.z = s.cpsr.z ∧ t.cpsr.c = s.cpsr.c ∧ t.cpsr.v = s.cpsr.v) ∨
      setsFlags i = true ∨ replacesStatus i = true := by
  cases h with
  | data hi => exact .inr (.inl hi)
  | swi | rsi | rfi => exact .inr (.inr rfl)
  | link | call | stack | popPc => exact .inl (by simp)
  | access | device | jump | ifs | ifc | mrsSwi | mrsIrq => exact .inl ⟨rfl, rfl, rfl, rfl⟩

theorem Effect.keepsSp_or_writesSp (h : Effect s i t) : KeepsSp s t ∨ writesSp i = true := by
  cases h with
  | stack hsp => exact .inr hsp
  | popPc | rfi => exact .inr rfl
  | link | call => exact .inl (by simp [KeepsSp])
  | data | access | device | jump | swi | rsi | ifs | ifc | mrsSwi | mrsIrq => exact .inl ⟨rfl, rfl⟩

theorem Effect.keepsLr_or_writesLr (h : Effect s i t) : KeepsLr s t ∨ writesLr i = true := by
  cases h with
  | link hlr | call hlr => exact .inr hlr
  | swi => exact .inr rfl
  | stack | popPc => exact .inl (by simp [KeepsLr])
  | data | access | device | jump | rsi | rfi | ifs | ifc | mrsSwi | mrsIrq => exact .inl ⟨rfl, rfl, rfl⟩

theorem Effect.keepsSpsrSwi_or_swi_or_mrs (h : Effect s i t) :
    t.spsrSwi = s.spsrSwi ∨ (∃ n, i = .swi n) ∨ (s.cpsr.m = .swi ∧ ∃ rd, i = .mrs rd) := by
  cases h with
  | swi imm8 => exact .inr (.inl ⟨imm8, rfl⟩)
  | mrsSwi rd hm => exact .inr (.inr ⟨hm, rd, rfl⟩)
  | link | call | stack | popPc => exact .inl (by simp)
  | data | access | device | jump | rsi | rfi | ifs | ifc | mrsIrq => exact .inl rfl

theorem Effect.keepsSpsrIrq_or_mrs (h : Effect s i t) :
    t.spsrIrq = s.spsrIrq ∨ (s.cpsr.m = .irq ∧ ∃ rd, i = .mrs rd) := by
  cases h with
  | mrsIrq rd hm => exact .inr ⟨hm, rd, rfl⟩
  | link | call | stack | popPc => exact .inl (by simp)
  | data | access | device | jump | swi | rsi | rfi | ifs | ifc | mrsSwi => exact .inl rfl

theorem Effect.keepsPc_or_writesPc (h : Effect s i t) : t.pc = s.pc ∨ writesPc i = true := by
  cases h with
  | jump hpc | call _ hpc => exact .inr hpc
  | popPc | swi | rsi | rfi => exact .inr rfl
  | link | stack => exact .inl (by simp)
  | data | access | device | ifs | ifc | mrsSwi | mrsIrq => exact .inl rfl

end

/-- Settles O55: of the effects of an instruction, `data` and those that replace the status touch a condition code. -/
theorem conditionCodesChangeOnlyInFormats1To4AndBySwiRsiRfi :
    Obligations.ConditionCodesChangeOnlyInFormats1To4AndBySwiRsiRfi := by
  intro i s t h hne
  refine (exec_effect h).keepsFlags_or_setsFlags.resolve_left ?_
  rintro ⟨hn, hz, hc, hv⟩
  exact hne.elim (· hn) (·.elim (· hz) (·.elim (· hc) (· hv)))

/-- Settles O56: each clause from what the effect of the instruction keeps. -/
theorem bankedRegistersChangeOnlyByNamedInstructions :
    Obligations.BankedRegistersChangeOnlyByNamedInstructions := by
  intro i s t h
  have e : Effect s i t := exec_effect h
  exact ⟨e.keepsSp_or_writesSp.resolve_left, e.keepsLr_or_writesLr.resolve_left,
    e.keepsSpsrSwi_or_swi_or_mrs.resolve_left, e.keepsSpsrIrq_or_mrs.resolve_left,
    e.keepsPc_or_writesPc.resolve_left⟩

/-! ## The step and reset -/

/-- Settles O5: the second clause is the step's branch without an interrupt, and before the first instruction the
devices are quiet, so that the third follows from it. -/
theorem stepRunsTheDecodedInstruction : Obligations.StepRunsTheDecodedInstruction := by
  refine ⟨fun _ => rfl, ?_, ?_⟩
  · rintro s d i hirq rfl
    exact stepWith_of_not_taken d s hirq
  · rintro s i hfirst rfl
    have hquiet : s.afterTick s.nextTick = s := by
      rw [s.nextTick_of_first hfirst, s.afterTick_quiet, ← hfirst]
    have hirq : s.takenInterrupt s.nextTick = none := by
      rw [s.nextTick_of_first hfirst, s.takenInterrupt_quiet]
    rw [step, stepWith_of_not_taken _ _ hirq, hquiet]
    rfl

/-- Settles O10: `word(CPSR)` is computed from the reset fields, and the devices are quiet at reset. -/
theorem resetStateIsAsTheSpecDecides : Obligations.ResetStateIsAsTheSpecDecides := by
  have hquiet : State.reset.nextTick = DeviceTick.quiet [] := State.reset.nextTick_of_first State.reset_boundary
  have hword : State.reset.cpsr.toWord = 0x0010#16 := by decide
  refine ⟨State.reset_pc, hword, rfl, State.reset_boundary, ?_, ?_⟩
  · rw [hquiet, DeviceTick.quiet_offer]
  · rw [hquiet, DeviceTick.quiet_writes]

/-- Settles O28: reset lists no word of memory. -/
theorem resetMemoryIsCanonical : Obligations.ResetMemoryIsCanonical := by
  show State.reset.mem.wf = true
  rw [State.reset_mem, Memory.wf_nil]

end Sys2Proof.Machine
end

section
/-! PROOFS. Memory (20_memory.md): the canonical form is kept and determines the list, which instructions write memory,
a stored word is the next one fetched, and what the devices do between instructions. -/

namespace Sys2Proof.Machine

open Sys2Proof.Claims

/-! ## A canonical list holds exactly what can be read from it (R65) -/

theorem Memory.lookup_of_mem {m : Memory} {e : Nat × Word} (hm : m.Pairwise (fun x y => x.1 < y.1)) (he : e ∈ m) :
    m.lookup e.1 = e.2 := by
  induction m with
  | nil => cases he
  | cons x rest ih =>
    obtain ⟨hx, hrest⟩ := List.pairwise_cons.mp hm
    obtain rfl | he := List.mem_cons.mp he
    · simp [Memory.lookup]
    · simp [Memory.lookup, (hx e he).ne, ih hrest he]

theorem Memory.mem_of_lookup_eq {m : Memory} {k : Nat} {v : Word} (h : m.lookup k = v)
    (hv : v ≠ Config.unwrittenWord) : (k, v) ∈ m := by
  induction m with
  | nil => exact absurd h.symm hv
  | cons x rest ih =>
    obtain ⟨k', v'⟩ := x
    by_cases hk : k' = k
    · obtain rfl : v' = v := by simpa [Memory.lookup, hk] using h
      simp [hk]
    · exact List.mem_cons_of_mem _ (ih (by simpa [Memory.lookup, hk] using h))

theorem Memory.mem_iff_read_of_wf {m : Memory} (hm : m.wf = true) (e : Nat × Word) :
    e ∈ m ↔ e.1 < 65536 ∧ e.2 ≠ Config.unwrittenWord ∧ m.read (BitVec.ofNat 16 e.1) = e.2 := by
  obtain ⟨hsorted, hentries⟩ := m.wf_iff.mp hm
  have hread : e.1 < 65536 → m.read (BitVec.ofNat 16 e.1) = m.lookup e.1 := fun hk => by
    simp [Memory.read, Nat.mod_eq_of_lt hk]
  constructor
  · intro he
    obtain ⟨hk, hv⟩ := hentries e he
    exact ⟨hk, hv, (hread hk).trans (Memory.lookup_of_mem hsorted he)⟩
  · rintro ⟨hk, hv, hr⟩
    exact Memory.mem_of_lookup_eq ((hread hk).symm.trans hr) hv

/-- Settles O26: two canonical lists that read alike hold the same entries, and both are sorted. -/
theorem canonicalMemoriesThatReadAlikeAreEqual : Obligations.CanonicalMemoriesThatReadAlikeAreEqual := by
  intro m m' hm hm' hread
  have : Std.Irrefl (fun x y : Nat × Word => x.1 < y.1) := ⟨fun _ => lt_irrefl _⟩
  have : Std.Antisymm (fun x y : Nat × Word => x.1 < y.1) := ⟨fun _ _ h h' => absurd h h'.asymm⟩
  refine List.Pairwise.eq_of_mem_iff (m.wf_iff.mp hm).1 (m'.wf_iff.mp hm').1 fun e => ?_
  rw [Memory.mem_iff_read_of_wf hm, Memory.mem_iff_read_of_wf hm', hread]

/-! ## What the instructions store (R63) -/

theorem storesOf_eq_nil {i : Instr} (h : writesMemory i = false) (s : State) : storesOf i s = [] := by
  cases i with
  | strReg | strRegPost | strImm | strImmPost | strSp | push | pushLr | stmia => cases h
  | _ => rfl

theorem writesMemory_of_mem_storesOf {i : Instr} {s : State} {e : Word × Word} (h : e ∈ storesOf i s) :
    writesMemory i = true := by
  cases hw : writesMemory i with
  | true => rfl
  | false => rw [storesOf_eq_nil hw] at h; cases h

/-- An instruction that computes, jumps or links stores nothing. -/
theorem writesMemory_eq_false {i : Instr} (h : setsFlags i = true ∨ writesPc i = true ∨ writesLr i = true) :
    writesMemory i = false := by
  cases i with
  | strReg | strRegPost | strImm | strImmPost | strSp | push | pushLr | stmia | hwi =>
    obtain h | h | h := h <;> cases h
  | _ => rfl

theorem wordsAt_singleton (a v : Word) : wordsAt a [v] = [(a, v)] := by simp [wordsAt]

/-- Every rule stores at most nine words, at consecutive addresses (R68). -/
theorem storesOf_eq_wordsAt (i : Instr) (s : State) :
    ∃ a vs, vs.length ≤ 9 ∧ storesOf i s = wordsAt a vs := by
  have hlist : ∀ rlist, (s.getRegs (listedRegs rlist)).length ≤ 8 := fun rlist =>
    (s.getRegs_length _).trans_le (listedRegs_length_le rlist)
  cases i with
  | strReg | strRegPost | strImm | strImmPost | strSp => exact ⟨_, [_], by simp, (wordsAt_singleton _ _).symm⟩
  | push rlist | stmia _ rlist => exact ⟨_, _, (hlist rlist).trans (by decide), rfl⟩
  | pushLr rlist => exact ⟨_, _, by simpa [Nat.lt_succ_iff] using listedRegs_length_le rlist, rfl⟩
  | _ => exact ⟨0#16, [], by simp, rfl⟩

/-- The stored words stand at different addresses, so that each of them is read back. -/
theorem Memory.read_writeAll_storesOf {i : Instr} {s : State} {a w : Word} (m : Memory) (h : (a, w) ∈ storesOf i s) :
    (m.writeAll (storesOf i s)).read a = w := by
  obtain ⟨b, vs, hlen, hws⟩ := storesOf_eq_wordsAt i s
  rw [hws] at h ⊢
  obtain ⟨k, hk, hkw⟩ := List.mem_mapIdx.mp h
  obtain ⟨rfl, rfl⟩ := Prod.mk.inj hkw
  rw [← Memory.storeWords_eq_writeAll]
  exact m.read_storeWords b vs (by omega) k hk

/-- An instruction that stores a word completes: of those that store, `STMIA` alone can fault, with an empty list. -/
theorem exec_eq_next_of_mem_storesOf {i : Instr} {s : State} {e : Word × Word} (h : e ∈ storesOf i s) :
    ∃ t, exec i s = .next t := by
  cases i with
  | strReg | strRegPost | strImm | strImmPost | strSp | push | pushLr => exact ⟨_, rfl⟩
  | stmia rb rlist =>
    have hne : rlist ≠ 0#8 := by
      rintro rfl
      cases h
    exact ⟨_, if_neg hne⟩
  | _ => cases h

/-! ## What an instruction does to memory and the devices -/

section
variable {i : Instr} {s t : State}

/-- Memory after an instruction: what its rule stores, or, for `HWI`, what the device writes. -/
theorem Effect.mem_eq (h : Effect s i t) :
    t.mem = s.mem.writeAll (storesOf i s) ∨
      ∃ (rd : Reg) (e : HwiEffect), i = .hwi rd ∧ t.mem = s.mem.writeAll e.writes := by
  cases h with
  | access => exact .inl rfl
  | stack => exact .inl (State.setSp_mem ..)
  | device rd e => exact .inr ⟨rd, e, rfl, rfl⟩
  | data hi => exact .inl (by rw [storesOf_eq_nil (writesMemory_eq_false (.inl hi))]; rfl)
  | jump hpc => exact .inl (by rw [storesOf_eq_nil (writesMemory_eq_false (.inr (.inl hpc)))]; rfl)
  | link hlr | call hlr => exact .inl (by rw [storesOf_eq_nil (writesMemory_eq_false (.inr (.inr hlr)))]; simp)
  | popPc => exact .inl (by rw [storesOf_eq_nil rfl]; simp)
  | swi | rsi | rfi | ifs | ifc | mrsSwi | mrsIrq => exact .inl rfl

theorem Effect.mem_eq_of_mem_storesOf {e : Word × Word} (h : Effect s i t) (he : e ∈ storesOf i s) :
    t.mem = s.mem.writeAll (storesOf i s) := by
  obtain hmem | ⟨rd, _, rfl, -⟩ := h.mem_eq
  · exact hmem
  · cases he

theorem Effect.mem_wf (h : Effect s i t) (hs : s.mem.wf = true) : t.mem.wf = true := by
  obtain hmem | ⟨_, _, -, hmem⟩ := h.mem_eq <;> exact hmem ▸ s.mem.wf_writeAll _ hs

theorem Effect.keepsMemory_or_writesMemory (h : Effect s i t) : KeepsMemory s t ∨ writesMemory i = true := by
  obtain hmem | ⟨_, _, rfl, -⟩ := h.mem_eq
  · cases hw : writesMemory i with
    | true => exact .inr rfl
    | false =>
      rw [storesOf_eq_nil hw, Memory.writeAll_nil] at hmem
      exact .inl fun a => congrArg (Memory.read · a) hmem
  · exact .inr rfl

theorem Effect.keepsDevState_or_hwi (h : Effect s i t) : t.devState = s.devState ∨ ∃ rd, i = .hwi rd := by
  cases h with
  | device rd => exact .inr ⟨rd, rfl⟩
  | link | call | stack | popPc => exact .inl (by simp)
  | data | access | jump | swi | rsi | rfi | ifs | ifc | mrsSwi | mrsIrq => exact .inl rfl

theorem Effect.boundary_eq (h : Effect s i t) : t.boundary = s.boundary := by
  cases h with
  | link | call | stack | popPc => simp
  | data | access | device | jump | swi | rsi | rfi | ifs | ifc | mrsSwi | mrsIrq => rfl

end

/-- Settles O57: both clauses from what the effect of the instruction keeps. -/
theorem memoryChangesOnlyByStoresAndHwi : Obligations.MemoryChangesOnlyByStoresAndHwi := by
  intro i s t h
  have e : Effect s i t := exec_effect h
  exact ⟨e.keepsMemory_or_writesMemory.resolve_left, e.keepsDevState_or_hwi.resolve_left⟩

/-! ## Every step keeps the canonical form -/

theorem stepWith_mem_wf {d : DeviceTick} {s t : State} (hs : s.mem.wf = true) (h : stepWith d s = .next t) :
    t.mem.wf = true := by
  have htick : (s.afterTick d).mem.wf = true := s.afterTick_mem_wf d hs
  obtain ⟨o, -, rfl⟩ | ⟨-, u, hu, rfl⟩ := (stepWith_eq_next_iff d s t).1 h
  · exact (s.afterTick d).enterIrq_mem_wf o.message htick
  · exact (exec_effect hu).mem_wf htick

/-- Settles O27: the devices' writes, an interrupt entry and the effect of an instruction all keep the form. -/
theorem everyStepKeepsMemoryCanonical : Obligations.EveryStepKeepsMemoryCanonical :=
  fun _ _ => stepWith_mem_wf

/-! ## The devices between instructions (R73, R203) -/

theorem State.afterTick_readMem_of_forall_ne (s : State) (d : DeviceTick) (a : Word) (h : ∀ e ∈ d.writes, e.1 ≠ a) :
    (s.afterTick d).readMem a = s.readMem a :=
  s.mem.read_writeAll_of_forall_ne d.writes a h

/-- Settles O8: every field but memory by its own lemma, memory by the list of writes. -/
theorem devicesBetweenInstructionsTouchOnlyMemoryAndThemselves :
    Obligations.DevicesBetweenInstructionsTouchOnlyMemoryAndThemselves :=
  fun s d => ⟨s.afterTick_regs d, s.afterTick_pc d, s.afterTick_cpsr d, ⟨s.afterTick_spUsr d, s.afterTick_spIrq d⟩,
    ⟨s.afterTick_lrUsr d, s.afterTick_lrSwi d, s.afterTick_lrIrq d⟩, ⟨s.afterTick_spsrSwi d, s.afterTick_spsrIrq d⟩,
    s.afterTick_devState d, s.afterTick_readMem_of_forall_ne d⟩

theorem State.nextTick_of_connected {s : State} (hb : s.boundary = true) (hc : Config.deviceCount ≠ 0#16) :
    s.nextTick = Config.tick s.mem s.devState := by
  simp [State.nextTick, hb, hc]

theorem State.nextTick_of_not_connected {s : State} (h : ¬ (s.boundary = true ∧ Config.deviceCount ≠ 0#16)) :
    s.nextTick = DeviceTick.quiet s.devState := by
  cases hb : s.boundary with
  | false => exact s.nextTick_of_first hb
  | true =>
    have hc : Config.deviceCount = 0#16 := by simpa [hb] using h
    simp [State.nextTick, hb, hc]

/-- Where the devices are quiet, the step is the instruction at `pc`. -/
theorem step_of_quiet {s : State} (h : s.nextTick = DeviceTick.quiet s.devState) :
    step s = endOutcome (exec (decode (s.readMem s.pc)) { s with pc := s.pc + 1#16, boundary := false }) := by
  rw [step, h, stepWith_of_not_taken _ _ (s.takenInterrupt_quiet _), s.afterTick_quiet]
  rfl

theorem stepWith_boundary {d : DeviceTick} {s t : State} (h : stepWith d s = .next t) : t.boundary = true := by
  obtain ⟨o, -, rfl⟩ | ⟨-, u, -, rfl⟩ := (stepWith_eq_next_iff d s t).1 h <;> exact State.endStep_boundary _

/-- Settles O9: by the condition that lets the devices act; without it they are quiet. -/
theorem devicesActOnlyWhereConnectedAndBetweenInstructions :
    Obligations.DevicesActOnlyWhereConnectedAndBetweenInstructions := by
  intro s
  refine ⟨?_, fun t => stepWith_boundary, fun i t h => (exec_effect h).boundary_eq⟩
  split
  next hact => rw [step, State.nextTick_of_connected hact.1 hact.2]
  next hidle => exact step_of_quiet (State.nextTick_of_not_connected hidle)

/-! ## A stored word is fetched (R76) -/

/-- A step without an interrupt runs the word that `pc` addresses, where the devices do not overwrite it. -/
theorem stepWith_of_kept_fetch {d : DeviceTick} {t : State} (hirq : t.takenInterrupt d = none)
    (hkeep : ∀ e ∈ d.writes, e.1 ≠ t.pc) :
    stepWith d t = endOutcome (exec (decode (t.readMem t.pc)) { t.afterTick d with pc := t.pc + 1#16 }) := by
  rw [stepWith_of_not_taken d t hirq, ← t.afterTick_readMem_of_forall_ne d t.pc hkeep]
  rfl

/-- Settles O33: the storing instruction completes, `pc` stays, and `pc` addresses the stored word. -/
theorem storeIsSeenByTheNextFetch : Obligations.StoreIsSeenByTheNextFetch := by
  intro i s w hw
  obtain ⟨t, ht⟩ := exec_eq_next_of_mem_storesOf hw
  have e : Effect s i t := exec_effect ht
  have hpc : t.pc = s.pc := e.keepsPc_or_writesPc.resolve_right fun hjump => by
    simpa [writesMemory_of_mem_storesOf hw] using writesMemory_eq_false (.inr (.inl hjump))
  have hword : t.readMem s.pc = w := by
    rw [State.readMem_eq, e.mem_eq_of_mem_storesOf hw, Memory.read_writeAll_storesOf _ hw]
  refine ⟨t, ht, fun d hirq hkeep => ?_⟩
  rw [stepWith_of_kept_fetch hirq (hpc ▸ hkeep), hpc, hword]

end Sys2Proof.Machine
end

section
/-! PROOFS. The encoding (30_encoding.md): a word stands in exactly one row, and decoding reads that row's fields from
it. `Instr.reread` says which fields those are; `decode_eq_reread` and `inRow_decode` are the two directions, from a row
to what the decoder answers and from the decoder's answer to the row, and the round trips follow from them. -/

namespace Sys2Proof

/-! ## Rows (R93, R128) -/

/-- A word stands in the row of an instruction: it has the row's fixed bits. -/
def InRow (w : Word) (i : Instr) : Prop := w &&& rowMask i = rowMatch i

/-- The instruction of the same row with its fields read from a word, at the bits where the spec's formats have them
(30_encoding.md section 4). -/
def Instr.reread (i : Instr) (w : Word) : Instr :=
  match i with
  | .lslImm _ _ _ => .lslImm (regAt w 0) (regAt w 3) (bits w 10 6)
  | .lsrImm _ _ _ => .lsrImm (regAt w 0) (regAt w 3) (bits w 10 6)
  | .asrImm _ _ _ => .asrImm (regAt w 0) (regAt w 3) (bits w 10 6)
  | .addReg _ _ _ => .addReg (regAt w 0) (regAt w 3) (regAt w 6)
  | .subReg _ _ _ => .subReg (regAt w 0) (regAt w 3) (regAt w 6)
  | .addImm3 _ _ _ => .addImm3 (regAt w 0) (regAt w 3) (bits w 8 6)
  | .subImm3 _ _ _ => .subImm3 (regAt w 0) (regAt w 3) (bits w 8 6)
  | .movImm _ _ => .movImm (regAt w 8) (bits w 7 0)
  | .cmpImm _ _ => .cmpImm (regAt w 8) (bits w 7 0)
  | .addImm8 _ _ => .addImm8 (regAt w 8) (bits w 7 0)
  | .subImm8 _ _ => .subImm8 (regAt w 8) (bits w 7 0)
  | .and _ _ => .and (regAt w 0) (regAt w 3)
  | .eor _ _ => .eor (regAt w 0) (regAt w 3)
  | .lslReg _ _ => .lslReg (regAt w 0) (regAt w 3)
  | .lsrReg _ _ => .lsrReg (regAt w 0) (regAt w 3)
  | .asrReg _ _ => .asrReg (regAt w 0) (regAt w 3)
  | .adc _ _ => .adc (regAt w 0) (regAt w 3)
  | .sbc _ _ => .sbc (regAt w 0) (regAt w 3)
  | .ror _ _ => .ror (regAt w 0) (regAt w 3)
  | .tst _ _ => .tst (regAt w 0) (regAt w 3)
  | .neg _ _ => .neg (regAt w 0) (regAt w 3)
  | .cmpReg _ _ => .cmpReg (regAt w 0) (regAt w 3)
  | .cmn _ _ => .cmn (regAt w 0) (regAt w 3)
  | .orr _ _ => .orr (regAt w 0) (regAt w 3)
  | .mul _ _ => .mul (regAt w 0) (regAt w 3)
  | .bic _ _ => .bic (regAt w 0) (regAt w 3)
  | .mvn _ _ => .mvn (regAt w 0) (regAt w 3)
  | .bx _ => .bx (regAt w 0)
  | .blx _ => .blx (regAt w 0)
  | .hwn _ => .hwn (regAt w 0)
  | .hwq _ => .hwq (regAt w 0)
  | .hwi _ => .hwi (regAt w 0)
  | .mrs _ => .mrs (regAt w 0)
  | .msr _ => .msr (regAt w 0)
  | .ldrPc _ _ => .ldrPc (regAt w 8) (bits w 7 0)
  | .strReg _ _ _ => .strReg (regAt w 0) (regAt w 3) (regAt w 6)
  | .strRegPost _ _ _ => .strRegPost (regAt w 0) (regAt w 3) (regAt w 6)
  | .ldrReg _ _ _ => .ldrReg (regAt w 0) (regAt w 3) (regAt w 6)
  | .ldrRegPost _ _ _ => .ldrRegPost (regAt w 0) (regAt w 3) (regAt w 6)
  | .strImm _ _ _ => .strImm (regAt w 0) (regAt w 3) (bits w 10 6)
  | .strImmPost _ _ _ => .strImmPost (regAt w 0) (regAt w 3) (bits w 10 6)
  | .ldrImm _ _ _ => .ldrImm (regAt w 0) (regAt w 3) (bits w 10 6)
  | .ldrImmPost _ _ _ => .ldrImmPost (regAt w 0) (regAt w 3) (bits w 10 6)
  | .strSp _ _ => .strSp (regAt w 8) (bits w 7 0)
  | .ldrSp _ _ => .ldrSp (regAt w 8) (bits w 7 0)
  | .addPc _ _ => .addPc (regAt w 8) (bits w 7 0)
  | .addSp _ _ => .addSp (regAt w 8) (bits w 7 0)
  | .addSpImm _ => .addSpImm (bits w 6 0)
  | .subSpImm _ => .subSpImm (bits w 6 0)
  | .push _ => .push (bits w 7 0)
  | .pushLr _ => .pushLr (bits w 7 0)
  | .pop _ => .pop (bits w 7 0)
  | .popPc _ => .popPc (bits w 7 0)
  | .stmia _ _ => .stmia (regAt w 8) (bits w 7 0)
  | .ldmia _ _ => .ldmia (regAt w 8) (bits w 7 0)
  | .beq _ => .beq (bits w 7 0)
  | .bne _ => .bne (bits w 7 0)
  | .bcs _ => .bcs (bits w 7 0)
  | .bcc _ => .bcc (bits w 7 0)
  | .bmi _ => .bmi (bits w 7 0)
  | .bpl _ => .bpl (bits w 7 0)
  | .bvs _ => .bvs (bits w 7 0)
  | .bvc _ => .bvc (bits w 7 0)
  | .bhi _ => .bhi (bits w 7 0)
  | .bls _ => .bls (bits w 7 0)
  | .bge _ => .bge (bits w 7 0)
  | .blt _ => .blt (bits w 7 0)
  | .bgt _ => .bgt (bits w 7 0)
  | .ble _ => .ble (bits w 7 0)
  | .swi _ => .swi (bits w 7 0)
  | .b _ => .b (bits w 10 0)
  | .blLo _ => .blLo (bits w 7 0)
  | .blHi _ => .blHi (bits w 7 0)
  | .blImm _ => .blImm (bits w 10 0)
  | i => i

@[simp] theorem rowMask_reread (i : Instr) (w : Word) : rowMask (i.reread w) = rowMask i := by
  cases i <;> rfl

@[simp] theorem rowMatch_reread (i : Instr) (w : Word) : rowMatch (i.reread w) = rowMatch i := by
  cases i <;> rfl

theorem careMask_and_rowMask (i : Instr) : careMask i &&& rowMask i = rowMask i := by
  cases i <;> simp only [careMask, rowMask] <;> rfl

theorem rowMatch_and_rowMask (i : Instr) : rowMatch i &&& rowMask i = rowMatch i := by
  cases i <;> simp only [rowMatch, rowMask] <;> rfl

section
open Laws.EncodeInRow

theorem inRow_encode : ∀ i : Instr, InRow (encode i) i :=
  Instr.rec (motive := Statement)
    lslImm lsrImm asrImm addReg subReg addImm3 subImm3 movImm cmpImm addImm8 subImm8 and eor lslReg lsrReg asrReg adc
    sbc ror tst neg cmpReg cmn orr mul bic mvn bx blx hwn hwq hwi illegalF6 rfi rsi ifs ifc mrs msr illegalF7
    unallocated0100010 ldrPc strReg strRegPost ldrReg ldrRegPost unusedF10 strImm strImmPost ldrImm ldrImmPost
    unusedF12 strSp ldrSp addPc addSp addSpImm subSpImm push pushLr pop popPc unallocated1011x0001
    unallocated1011x0010 unallocated1011x0011 unallocated1011x0110 unallocated1011x0111 unallocated1011x1000
    unallocated1011x1001 unallocated1011x1010 unallocated1011x1011 unallocated1011x1110 unallocated1011x1111 stmia
    ldmia beq bne bcs bcc bmi bpl bvs bvc bhi bls bge blt bgt ble illegalCond1110 swi b unallocated11101 blLo blHi
    blImm

end

/-- Whether a word stands in a row is decided by the bits the row cares about. -/
theorem InRow.congr {v w : Word} {i : Instr} (h : InRow w i) (hvw : v &&& careMask i = w &&& careMask i) :
    InRow v i := by
  rw [InRow, ← careMask_and_rowMask, ← BitVec.and_assoc] at h ⊢
  rw [hvw, h]

/-! ## Slices of a word -/

@[simp] theorem num_regAt (w : Word) (lo : Nat) : (regAt w lo).num = w.extractLsb' lo 3 := Reg.num_ofNum _

theorem toNat_bits (w : Word) (hi lo : Nat) : (bits w hi lo).toNat = w.toNat / 2 ^ lo % 2 ^ (hi - lo + 1) := by
  rw [bits, BitVec.extractLsb'_toNat, Nat.shiftRight_eq_div_pow]

/-- A slice whose bits but the lowest are known has one of two values. -/
theorem toNat_bits_of_upper {w : Word} {hi lo : Nat} {k : BitVec (hi - (lo + 1) + 1)} (h : bits w hi (lo + 1) = k)
    (hlo : lo < hi) : (bits w hi lo).toNat = 2 * k.toNat ∨ (bits w hi lo).toNat = 2 * k.toNat + 1 := by
  have hk : hi - lo + 1 = (hi - (lo + 1) + 1) + 1 := by omega
  rw [← h, toNat_bits, toNat_bits, hk, pow_succ' 2 (hi - (lo + 1) + 1), Nat.mod_mul, pow_succ 2 lo,
    ← Nat.div_div_eq_div_mul]
  omega

/-- A slice that a mask fixes is the slice of the fixed bits. -/
theorem bits_of_and_eq {w m c : Word} (h : w &&& m = c) (hi lo : Nat) (hm : bits m hi lo = BitVec.allOnes _) :
    bits w hi lo = bits c hi lo := by
  rw [← h, bits, bits, BitVec.extractLsb'_and, ← bits, ← bits, hm, BitVec.and_allOnes]

/-- A slice put back at its place is the word without its other bits. -/
theorem place_slice (w : Word) (lo k : Nat) :
    place (w.extractLsb' lo k) lo = w &&& place (BitVec.allOnes k) lo := by
  ext j hj
  rw [BitVec.getElem_and, ← BitVec.getLsbD_eq_getElem hj, ← BitVec.getLsbD_eq_getElem hj,
    ← BitVec.getLsbD_eq_getElem hj, getLsbD_place _ _ _ hj, getLsbD_place _ _ _ hj]
  by_cases h : lo ≤ j
  · simp [h, Bool.and_comm]
  · simp [h]

/-! ## Reading the fields and writing them back -/

/-- The fields of an encoded instruction read back: each is placed where no other field is. -/
theorem reread_encode (i : Instr) : i.reread (encode i) = i := by
  cases i <;> simp [Instr.reread, encode, regAt, bits, slice_or, slice_place_self, slice_place_below, slice_place_above]

/-- The fields read from a word of the row, written back, are the word without its don't-care bits. -/
theorem encode_reread {w : Word} {i : Instr} (h : InRow w i) : encode (i.reread w) = w &&& careMask i := by
  cases i with
  | illegalF6 | rfi | rsi | ifs | ifc | illegalF7 | unallocated0100010 | unusedF10 | unusedF12 | unallocated1011x0001
  | unallocated1011x0010 | unallocated1011x0011 | unallocated1011x0110 | unallocated1011x0111 | unallocated1011x1000
  | unallocated1011x1001 | unallocated1011x1010 | unallocated1011x1011 | unallocated1011x1110
  | unallocated1011x1111 | illegalCond1110 | unallocated11101 => exact h.symm
  | _ =>
    simp only [InRow, rowMask, rowMatch] at h
    simp only [Instr.reread, encode, careMask, num_regAt, bits, place_slice]
    rw [← h]
    simp only [← BitVec.and_or_distrib_left]
    rfl

/-! ## From a row to the decoder's answer -/

section
variable {w : Word}

theorem decode_eq_decodeAddSub (h : bits w 15 11 = 3#5) : decode w = decodeAddSub w := by rw [decode, h]; rfl

theorem decode_eq_decode01000 (h : bits w 15 11 = 8#5) : decode w = decode01000 w := by rw [decode, h]; rfl

theorem decode_eq_decodeBxHw (h : bits w 15 11 = 8#5) (h' : bits w 10 8 = 6#3) : decode w = decodeBxHw w := by
  rw [decode_eq_decode01000 h, decode01000, h']; rfl

theorem decode_eq_decodeStatus (h : bits w 15 11 = 8#5) (h' : bits w 10 8 = 7#3) : decode w = decodeStatus w := by
  rw [decode_eq_decode01000 h, decode01000, h']; rfl

theorem decode_eq_decodeRegOffset (h : bits w 15 12 = 5#4) : decode w = decodeRegOffset w := by
  obtain e | e := toNat_bits_of_upper (lo := 11) h (by decide) <;> rw [decode, e] <;> rfl

theorem decode_eq_unusedF12 (h : bits w 15 12 = 8#4) : decode w = .unusedF12 := by
  obtain e | e := toNat_bits_of_upper (lo := 11) h (by decide) <;> rw [decode, e] <;> rfl

theorem decode_eq_decode1011 (h : bits w 15 12 = 11#4) : decode w = decode1011 w := by
  obtain e | e := toNat_bits_of_upper (lo := 11) h (by decide) <;> rw [decode, e] <;> rfl

theorem decode_eq_decodeAdjustSp (h : bits w 15 12 = 11#4) (h' : bits w 11 8 = 0#4) :
    decode w = decodeAdjustSp w := by
  rw [decode_eq_decode1011 h, decode1011, h']; rfl

theorem decode_eq_decode1101 (h : bits w 15 12 = 13#4) : decode w = decode1101 w := by
  obtain e | e := toNat_bits_of_upper (lo := 11) h (by decide) <;> rw [decode, e] <;> rfl

theorem decode_eq_decodeLongBl (h : bits w 15 11 = 30#5) : decode w = decodeLongBl w := by rw [decode, h]; rfl

/-- Bit 9 alone tells the unused Format 10 from Format 9 (R103). -/
theorem decodeRegOffset_eq_unusedF10 (h : w.toNat / 512 % 2 = 1) : decodeRegOffset w = .unusedF10 := by
  unfold decodeRegOffset
  split
  case h_5 => rfl
  all_goals
    simp only [toNat_bits] at *
    omega

/-- The decoder answers with the row a word stands in, and the fields read from the word. In each group the masks fix
the bits the decoder looks at, but for those that two or more of its arms share. -/
theorem decode_eq_reread {i : Instr} (h : InRow w i) : decode w = i.reread w := by
  cases i <;> simp only [InRow, rowMask, rowMatch] at h
  case addReg | subReg | addImm3 | subImm3 =>
    rw [decode_eq_decodeAddSub (bits_of_and_eq h 15 11 rfl), decodeAddSub, bits_of_and_eq h 10 9 rfl]
    rfl
  case and | eor | lslReg | lsrReg | asrReg | adc | sbc | ror | tst | neg | cmpReg | cmn | orr | mul | bic | mvn =>
    rw [decode_eq_decode01000 (bits_of_and_eq h 15 11 rfl), decode01000, bits_of_and_eq h 10 8 rfl]
    show decodeAlu w = _
    rw [decodeAlu, bits_of_and_eq h 9 6 rfl]
    rfl
  case bx | blx =>
    rw [decode_eq_decodeBxHw (bits_of_and_eq h 15 11 rfl) (bits_of_and_eq h 10 8 rfl), decodeBxHw]
    obtain e | e := toNat_bits_of_upper (bits_of_and_eq h 7 6 rfl) (by decide) <;> rw [e] <;> rfl
  case hwn | hwq | hwi | illegalF6 =>
    rw [decode_eq_decodeBxHw (bits_of_and_eq h 15 11 rfl) (bits_of_and_eq h 10 8 rfl), decodeBxHw,
      bits_of_and_eq h 7 5 rfl]
    rfl
  case rfi | rsi | ifs | ifc | mrs | msr =>
    rw [decode_eq_decodeStatus (bits_of_and_eq h 15 11 rfl) (bits_of_and_eq h 10 8 rfl), decodeStatus,
      bits_of_and_eq h 7 5 rfl]
    rfl
  case illegalF7 =>
    rw [decode_eq_decodeStatus (bits_of_and_eq h 15 11 rfl) (bits_of_and_eq h 10 8 rfl), decodeStatus]
    obtain e | e := toNat_bits_of_upper (bits_of_and_eq h 7 6 rfl) (by decide) <;> rw [e] <;> rfl
  case unallocated0100010 =>
    rw [decode_eq_decode01000 (bits_of_and_eq h 15 11 rfl), decode01000]
    obtain e | e := toNat_bits_of_upper (bits_of_and_eq h 10 9 rfl) (by decide) <;> rw [e] <;> rfl
  case strReg | strRegPost | ldrReg | ldrRegPost =>
    rw [decode_eq_decodeRegOffset (bits_of_and_eq h 15 12 rfl), decodeRegOffset, bits_of_and_eq h 11 9 rfl]
    rfl
  case unusedF10 =>
    rw [decode_eq_decodeRegOffset (bits_of_and_eq h 15 12 rfl)]
    refine decodeRegOffset_eq_unusedF10 ?_
    have h9 := congrArg BitVec.toNat (bits_of_and_eq h 9 9 rfl)
    simpa [toNat_bits] using h9
  case unusedF12 => exact decode_eq_unusedF12 (bits_of_and_eq h 15 12 rfl)
  case addSpImm | subSpImm =>
    rw [decode_eq_decodeAdjustSp (bits_of_and_eq h 15 12 rfl) (bits_of_and_eq h 11 8 rfl), decodeAdjustSp,
      bits_of_and_eq h 7 7 rfl]
    rfl
  case push | pushLr | pop | popPc | unallocated1011x0001 | unallocated1011x0010 | unallocated1011x0011
      | unallocated1011x0110 | unallocated1011x0111 | unallocated1011x1000 | unallocated1011x1001
      | unallocated1011x1010 | unallocated1011x1011 | unallocated1011x1110 | unallocated1011x1111 =>
    rw [decode_eq_decode1011 (bits_of_and_eq h 15 12 rfl), decode1011, bits_of_and_eq h 11 8 rfl]
    rfl
  case beq | bne | bcs | bcc | bmi | bpl | bvs | bvc | bhi | bls | bge | blt | bgt | ble | illegalCond1110 | swi =>
    rw [decode_eq_decode1101 (bits_of_and_eq h 15 12 rfl), decode1101, bits_of_and_eq h 11 8 rfl]
    rfl
  case blLo | blHi =>
    rw [decode_eq_decodeLongBl (bits_of_and_eq h 15 11 rfl), decodeLongBl, bits_of_and_eq h 10 10 rfl]
    rfl
  all_goals
    rw [decode, bits_of_and_eq h 15 11 rfl]
    rfl

/-! ## From the decoder's answer to the row -/

/-- A row that fixes the bits from `lo` up holds the words that agree with it there. -/
theorem inRow_of_div_eq {i : Instr} (lo : Nat) (hm : rowMask i = BitVec.allOnes 16 <<< lo)
    (h : w.toNat / 2 ^ lo = (rowMatch i).toNat / 2 ^ lo) : InRow w i := by
  have hs : w >>> lo = rowMatch i >>> lo := by
    apply BitVec.eq_of_toNat_eq
    simpa only [BitVec.toNat_ushiftRight, Nat.shiftRight_eq_div_pow] using h
  rw [InRow, hm, ← BitVec.shiftLeft_ushiftRight, hs, BitVec.shiftLeft_ushiftRight, ← hm, rowMatch_and_rowMask]

/-- The one row whose fixed bits are not the leading ones: `0101__1_________` (R103). -/
theorem inRow_unusedF10 (h : w.toNat / 4096 = 5) (h' : w.toNat / 512 % 2 = 1) : InRow w .unusedF10 := by
  have hmask : rowMask .unusedF10 = place (BitVec.allOnes 4) 12 ||| place (BitVec.allOnes 1) 9 := rfl
  have hhigh : w.extractLsb' 12 4 = 5#4 := by
    apply BitVec.eq_of_toNat_eq
    simp [Nat.shiftRight_eq_div_pow, h]
  have hbit : w.extractLsb' 9 1 = 1#1 := by
    apply BitVec.eq_of_toNat_eq
    simp [Nat.shiftRight_eq_div_pow, h']
  rw [InRow, hmask, BitVec.and_or_distrib_left, ← place_slice, ← place_slice, hhigh, hbit]
  rfl

theorem inRow_decodeAddSub (h : w.toNat / 2048 = 3) : InRow w (decodeAddSub w) := by
  unfold decodeAddSub
  split
  all_goals
    refine inRow_of_div_eq 9 rfl ?_
    simp only [toNat_bits, imp_false, rowMatch, BitVec.reduceToNat] at *
    omega

theorem inRow_decodeAlu (h : w.toNat / 1024 = 16) : InRow w (decodeAlu w) := by
  unfold decodeAlu
  split
  all_goals
    refine inRow_of_div_eq 6 rfl ?_
    simp only [toNat_bits, imp_false, rowMatch, BitVec.reduceToNat] at *
    omega

theorem inRow_decodeBxHw (h : w.toNat / 256 = 70) : InRow w (decodeBxHw w) := by
  unfold decodeBxHw
  split
  case h_1 | h_2 | h_3 | h_4 =>
    refine inRow_of_div_eq 6 rfl ?_
    simp only [toNat_bits, rowMatch, BitVec.reduceToNat] at *
    omega
  all_goals
    refine inRow_of_div_eq 5 rfl ?_
    simp only [toNat_bits, imp_false, rowMatch, BitVec.reduceToNat] at *
    omega

theorem inRow_decodeStatus (h : w.toNat / 256 = 71) : InRow w (decodeStatus w) := by
  unfold decodeStatus
  split
  case h_7 =>
    refine inRow_of_div_eq 6 rfl ?_
    simp only [toNat_bits, imp_false, rowMatch, BitVec.reduceToNat] at *
    omega
  all_goals
    refine inRow_of_div_eq 5 rfl ?_
    simp only [toNat_bits, rowMatch, BitVec.reduceToNat] at *
    omega

theorem inRow_decode01000 (h : w.toNat / 2048 = 8) : InRow w (decode01000 w) := by
  unfold decode01000
  split
  all_goals simp only [toNat_bits, imp_false] at *
  case h_1 | h_2 | h_3 | h_4 => exact inRow_decodeAlu (by omega)
  case h_7 => exact inRow_decodeBxHw (by omega)
  case h_8 => exact inRow_decodeStatus (by omega)
  all_goals
    refine inRow_of_div_eq 9 rfl ?_
    simp only [rowMatch, BitVec.reduceToNat]
    omega

theorem inRow_decodeRegOffset (h : w.toNat / 4096 = 5) : InRow w (decodeRegOffset w) := by
  unfold decodeRegOffset
  split
  case h_5 =>
    simp only [toNat_bits, imp_false] at *
    exact inRow_unusedF10 h (by omega)
  all_goals
    refine inRow_of_div_eq 9 rfl ?_
    simp only [toNat_bits, rowMatch, BitVec.reduceToNat] at *
    omega

theorem inRow_decodeAdjustSp (h : w.toNat / 256 = 176) : InRow w (decodeAdjustSp w) := by
  unfold decodeAdjustSp
  split
  all_goals
    refine inRow_of_div_eq 7 rfl ?_
    simp only [toNat_bits, imp_false, rowMatch, BitVec.reduceToNat] at *
    omega

theorem inRow_decode1011 (h : w.toNat / 4096 = 11) : InRow w (decode1011 w) := by
  unfold decode1011
  split
  case h_1 =>
    simp only [toNat_bits] at *
    exact inRow_decodeAdjustSp (by omega)
  all_goals
    refine inRow_of_div_eq 8 rfl ?_
    simp only [toNat_bits, imp_false, rowMatch, BitVec.reduceToNat] at *
    omega

theorem inRow_decode1101 (h : w.toNat / 4096 = 13) : InRow w (decode1101 w) := by
  unfold decode1101
  split
  all_goals
    refine inRow_of_div_eq 8 rfl ?_
    simp only [toNat_bits, imp_false, rowMatch, BitVec.reduceToNat] at *
    omega

theorem inRow_decodeLongBl (h : w.toNat / 2048 = 30) : InRow w (decodeLongBl w) := by
  unfold decodeLongBl
  split
  all_goals
    refine inRow_of_div_eq 10 rfl ?_
    simp only [toNat_bits, imp_false, rowMatch, BitVec.reduceToNat] at *
    omega

end

theorem inRow_decode (w : Word) : InRow w (decode w) := by
  have hw := w.isLt
  unfold decode
  split
  all_goals simp only [toNat_bits, imp_false] at *
  case h_4 => exact inRow_decodeAddSub (by omega)
  case h_9 => exact inRow_decode01000 (by omega)
  case h_11 | h_12 => exact inRow_decodeRegOffset (by omega)
  case h_23 | h_24 => exact inRow_decode1011 (by omega)
  case h_27 | h_28 => exact inRow_decode1101 (by omega)
  case h_31 => exact inRow_decodeLongBl (by omega)
  case h_17 | h_18 =>
    refine inRow_of_div_eq 12 rfl ?_
    simp only [rowMatch, BitVec.reduceToNat]
    omega
  all_goals
    refine inRow_of_div_eq 11 rfl ?_
    simp only [rowMatch, BitVec.reduceToNat]
    omega

/-! ## The round trips -/

/-- Settles O1: the word of an instruction stands in its row, where the decoder reads the fields back. -/
theorem decodeOfEncodeIsTheInstruction : Obligations.DecodeOfEncodeIsTheInstruction := by
  intro i
  rw [decode_eq_reread (inRow_encode i), reread_encode]

/-- Different instructions have different words. -/
theorem encode_injective : Function.Injective encode :=
  Function.LeftInverse.injective decodeOfEncodeIsTheInstruction

/-- A word of some row, decoded and encoded, loses the row's don't-care bits. -/
theorem encode_decode {w : Word} {i : Instr} (h : InRow w i) : encode (decode w) = w &&& careMask i := by
  rw [decode_eq_reread h, encode_reread h]

/-- Settles O2: a word that differs in don't-care bits alone stands in the same row, so that both encode to the same
word, and `encode` is injective. -/
theorem dontCareBitsAreAllThatDecodingDrops : Obligations.DontCareBitsAreAllThatDecodingDrops := by
  intro w
  have hw : InRow w (decode w) := inRow_decode w
  refine ⟨encode_decode hw, fun v hvw => encode_injective ?_⟩
  rw [encode_decode (hw.congr hvw), hvw, encode_decode hw]

/-- Settles O3: in any row that a word stands in, decoding only rereads the fields. -/
theorem everyWordBelongsToExactlyOneRow : Obligations.EveryWordBelongsToExactlyOneRow := by
  refine fun w => ⟨inRow_decode w, fun i h => ?_⟩
  rw [decode_eq_reread h, rowMask_reread, rowMatch_reread]
  exact ⟨rfl, rfl⟩

end Sys2Proof

namespace Sys2Proof.Machine

/-! ## Words that are no instruction (R117 to R122) -/

/-- What is no instruction stops, in every state: the 18 rows, and `STMIA` and `LDMIA` with an empty list. -/
theorem exec_of_wellFormed_eq_false {i : Instr} (h : i.wellFormed = false) (s : State) :
    exec i s = s.raiseIllegal := by
  cases i with
  | stmia rb rlist =>
    have hempty : rlist = 0#8 := by simpa [Instr.wellFormed] using h
    exact if_pos hempty
  | ldmia rb rlist =>
    have hempty : rlist = 0#8 := by simpa [Instr.wellFormed] using h
    exact if_pos hempty
  | illegalF6 | illegalF7 | unallocated0100010 | unusedF10 | unusedF12 | unallocated1011x0001 | unallocated1011x0010
  | unallocated1011x0011 | unallocated1011x0110 | unallocated1011x0111 | unallocated1011x1000 | unallocated1011x1001
  | unallocated1011x1010 | unallocated1011x1011 | unallocated1011x1110 | unallocated1011x1111 | illegalCond1110
  | unallocated11101 => rfl
  | _ => cases h

/-- Settles O52: none of the rows is an instruction. -/
theorem illegalRowsStopWithIllegalInstruction : Obligations.IllegalRowsStopWithIllegalInstruction := by
  intro s i hi
  have hwf : i.wellFormed = false := by
    revert i
    decide
  rw [exec_of_wellFormed_eq_false hwf, State.raiseIllegal]

end Sys2Proof.Machine
end

section
/-! PROOFS. The arithmetic and logic unit (40_alu.md). Every instruction of Formats 1 to 4 that completes writes one
register and the condition codes, or the condition codes alone; what it writes is what the laws of the adder, of `SetNZ`
and of the shifter say. -/

namespace Sys2Proof.Claims

open Sys2Proof.Machine

theorem DataFrame.getReg_of_ne {s t : State} {rd r : Reg} (h : DataFrame [rd] s t) (hr : r ≠ rd) :
    t.getReg r = s.getReg r :=
  h.1 r (mt List.mem_singleton.1 hr)

theorem bit_false : bit false = 0 := rfl

/-! ## The flags of a difference decide the relation (R172 item 3) -/

section
variable {a b res : Word} {q : Cpsr}

theorem IsDifference.z_iff (h : IsDifference a b false res q) : q.z = true ↔ a = b := by
  obtain ⟨hres, ⟨-, hz⟩, -, -⟩ := h
  have ha := a.isLt
  have hb := b.isLt
  rw [hz, ← BitVec.toNat_inj]
  rw [bit_false] at hres
  omega

theorem IsDifference.c_iff (h : IsDifference a b false res q) : q.c = true ↔ b.toNat ≤ a.toNat := by
  obtain ⟨-, -, hc, -⟩ := h
  simpa [bit_false] using hc

theorem IsDifference.v_iff (h : IsDifference a b false res q) :
    q.v = true ↔ a.toInt - b.toInt < -32768 ∨ 32767 < a.toInt - b.toInt := by
  obtain ⟨-, -, -, hv⟩ := h
  simpa [bit_false] using hv

theorem IsDifference.n_iff (h : IsDifference a b false res q) :
    q.n = true ↔ 32768 ≤ ((a.toNat : Int) - b.toNat) % 65536 := by
  obtain ⟨hres, ⟨hn, -⟩, -, -⟩ := h
  rw [bit_false] at hres
  rw [hn, toInt_eq]
  split <;> omega

/-- `N` gives the sign of the difference where it fits in a word, and its contrary where it overflows. -/
theorem IsDifference.n_eq_v_iff (h : IsDifference a b false res q) : q.n = q.v ↔ b.toInt ≤ a.toInt := by
  have ha := a.isLt
  have hb := b.isLt
  rw [Bool.eq_iff_iff, h.n_iff, h.v_iff, toInt_eq a, toInt_eq b]
  split <;> split <;> omega

theorem IsDifference.condHolds_hi_iff (h : IsDifference a b false res q) :
    condHolds .hi q = true ↔ b.toNat < a.toNat := by
  rw [condHolds, Bool.and_eq_true, Bool.not_eq_true', ← Bool.not_eq_true, h.c_iff, h.z_iff, ← BitVec.toNat_inj]
  omega

theorem IsDifference.condHolds_ge_iff (h : IsDifference a b false res q) :
    condHolds .ge q = true ↔ b.toInt ≤ a.toInt := by
  rw [condHolds, beq_iff_eq, h.n_eq_v_iff]

theorem IsDifference.condHolds_gt_iff (h : IsDifference a b false res q) :
    condHolds .gt q = true ↔ b.toInt < a.toInt := by
  rw [condHolds, Bool.and_eq_true, Bool.not_eq_true', ← Bool.not_eq_true, beq_iff_eq, h.z_iff, h.n_eq_v_iff,
    ← BitVec.toInt_inj]
  omega

end

/-! ## Two words together (R172 item 5) -/

section
variable {a b c d lo hi : Word} {p q : Cpsr}

/-- The low sum's carry goes into the high sum, so that the pair is the 32-bit sum. -/
theorem IsSum.double (hlo : IsSum a b false lo p) (hhi : IsSum c d p.c hi q) :
    hi.toNat * 65536 + lo.toNat = (c.toNat * 65536 + a.toNat + d.toNat * 65536 + b.toNat) % 4294967296 := by
  obtain ⟨hlores, -, hcarry, -⟩ := hlo
  obtain ⟨hhires, -, -, -⟩ := hhi
  have ha := a.isLt
  have hb := b.isLt
  rw [bit_false] at hlores hcarry
  simp only [bit, hcarry] at hhires
  split at hhires <;> omega

/-- The low difference's borrow is taken from the high difference, so that the pair is the 32-bit difference. -/
theorem IsDifference.double (hlo : IsDifference a b false lo p) (hhi : IsDifference c d (!p.c) hi q) :
    ((hi.toNat * 65536 + lo.toNat : Nat) : Int) =
      ((c.toNat * 65536 + a.toNat : Nat) - (d.toNat * 65536 + b.toNat : Nat) : Int) % 4294967296 := by
  obtain ⟨hlores, -, hcarry, -⟩ := hlo
  obtain ⟨hhires, -, -, -⟩ := hhi
  have ha := a.isLt
  have hb := b.isLt
  rw [bit_false] at hlores hcarry
  simp only [bit, Bool.not_eq_true', ← Bool.not_eq_true, hcarry] at hhires
  split at hhires <;> omega

end

end Sys2Proof.Claims

namespace Sys2Proof.Machine

open Sys2Proof.Claims

/-! ## Frames -/

theorem dataFrame_setRegCpsr (s : State) (rd : Reg) (v : Word) {q : Cpsr} (hi : q.i = s.cpsr.i)
    (hm : q.m = s.cpsr.m) : DataFrame [rd] s { s with regs := s.regs.set rd v, cpsr := q } :=
  ⟨fun _ hr => Regs.get_set_of_ne _ _ (List.ne_of_not_mem_cons hr), fun _ => rfl, ⟨rfl, rfl⟩, ⟨rfl, rfl, rfl⟩,
    ⟨rfl, rfl⟩, ⟨hi, hm⟩, ⟨rfl, rfl⟩, rfl⟩

theorem dataFrame_setCpsr (s : State) {q : Cpsr} (hi : q.i = s.cpsr.i) (hm : q.m = s.cpsr.m) :
    DataFrame [] s { s with cpsr := q } :=
  ⟨fun _ _ => rfl, fun _ => rfl, ⟨rfl, rfl⟩, ⟨rfl, rfl, rfl⟩, ⟨rfl, rfl⟩, ⟨hi, hm⟩, ⟨rfl, rfl⟩, rfl⟩

/-! ## The result register reads as the result -/

theorem State.putSum_getReg_self (s : State) (rd : Reg) (x : AddResult) : (s.putSum rd x).getReg rd = x.result :=
  Regs.get_set_self ..

theorem State.putLogic_getReg_self (s : State) (rd : Reg) (v : Word) : (s.putLogic rd v).getReg rd = v :=
  Regs.get_set_self ..

theorem State.putShift_getReg_self (s : State) (rd : Reg) (x : Word × Option Bool) :
    (s.putShift rd x).getReg rd = x.1 :=
  Regs.get_set_self ..

/-! ## Instructions by what they write -/

section
variable {i : Instr} {s : State} {rd : Reg} {a b v : Word} {cin : Bool}

theorem exec_isSum (h : exec i s = .next (s.putSum rd (addWithCarry a b cin))) :
    ∃ t, exec i s = .next t ∧ IsSum a b cin (t.getReg rd) t.cpsr ∧ DataFrame [rd] s t := by
  refine ⟨_, h, ?_, dataFrame_setRegCpsr s rd _ rfl rfl⟩
  rw [State.putSum_getReg_self]
  exact addWithCarry_isSum a b cin s.cpsr

theorem exec_isDifference (h : exec i s = .next (s.putSum rd (addWithCarry a (~~~b) cin))) :
    ∃ t, exec i s = .next t ∧ IsDifference a b (!cin) (t.getReg rd) t.cpsr ∧ DataFrame [rd] s t := by
  refine ⟨_, h, ?_, dataFrame_setRegCpsr s rd _ rfl rfl⟩
  rw [State.putSum_getReg_self]
  exact addWithCarry_not_isDifference a b cin s.cpsr

theorem exec_flags_isSum (h : exec i s = .next (s.flagSum (addWithCarry a b cin))) :
    ∃ t res, exec i s = .next t ∧ IsSum a b cin res t.cpsr ∧ DataFrame [] s t :=
  ⟨_, _, h, addWithCarry_isSum a b cin s.cpsr, dataFrame_setCpsr s rfl rfl⟩

theorem exec_flags_isDifference (h : exec i s = .next (s.flagSum (addWithCarry a (~~~b) cin))) :
    ∃ t res, exec i s = .next t ∧ IsDifference a b (!cin) res t.cpsr ∧ DataFrame [] s t :=
  ⟨_, _, h, addWithCarry_not_isDifference a b cin s.cpsr, dataFrame_setCpsr s rfl rfl⟩

theorem exec_isLogic (h : exec i s = .next (s.putLogic rd v)) :
    ∃ t, exec i s = .next t ∧ DataFrame [rd] s t ∧ IsLogic (t.getReg rd) s.cpsr t.cpsr ∧ t.getReg rd = v := by
  refine ⟨_, h, dataFrame_setRegCpsr s rd _ rfl rfl, ?_, s.putLogic_getReg_self rd v⟩
  rw [State.putLogic_getReg_self]
  exact setNZ_isLogic v s.cpsr

theorem exec_bitwise {f : Nat → Bool} (h : exec i s = .next (s.putLogic rd v)) (hf : ∀ k < 16, v.getLsbD k = f k) :
    ∃ t, exec i s = .next t ∧ DataFrame [rd] s t ∧ IsLogic (t.getReg rd) s.cpsr t.cpsr ∧
      ∀ k, k < 16 → (t.getReg rd).getLsbD k = f k := by
  obtain ⟨t, ht, hframe, hlogic, rfl⟩ := exec_isLogic h
  exact ⟨t, ht, hframe, hlogic, hf⟩

/-- A shift has the property `R` of result and flags that the shifter has. -/
theorem exec_shift {R : Word → Cpsr → Cpsr → Prop} {x : Word × Option Bool} (h : exec i s = .next (s.putShift rd x))
    (hR : R x.1 s.cpsr (setShiftFlags x s.cpsr)) :
    ∃ t, exec i s = .next t ∧ DataFrame [rd] s t ∧ R (t.getReg rd) s.cpsr t.cpsr := by
  refine ⟨_, h, dataFrame_setRegCpsr s rd _ rfl rfl, ?_⟩
  rw [State.putShift_getReg_self]
  exact hR

end

/-! ## Addition and subtraction (R146 to R149, R152 to R154, R161, R162, R165 to R167) -/

/-- Settles O11: each puts the adder's sum, with carry in 0. -/
theorem additionsAddAndSetAllFlags : Obligations.AdditionsAddAndSetAllFlags := by
  refine fun s => ⟨fun rd ra rb => exec_isSum rfl, fun rd ra imm3 => ?_, fun rd imm8 => ?_⟩
  · rw [← zext_eq]
    exact exec_isSum rfl
  · rw [← zext_eq]
    exact exec_isSum rfl

/-- Settles O12: each puts the adder's sum with the complement, with carry in 1. -/
theorem subtractionsSubtractAndSetAllFlags : Obligations.SubtractionsSubtractAndSetAllFlags := by
  refine fun s => ⟨fun rd ra rb => exec_isDifference (cin := true) rfl, fun rd ra imm3 => ?_, fun rd imm8 => ?_⟩
  · rw [← zext_eq]
    exact exec_isDifference (cin := true) rfl
  · rw [← zext_eq]
    exact exec_isDifference (cin := true) rfl

/-- Settles O13: the flags are those of the adder's result, which no register receives. -/
theorem comparesSetFlagsAndWriteNoRegister : Obligations.ComparesSetFlagsAndWriteNoRegister := by
  refine fun s => ⟨fun rd imm8 => ?_, fun rd rs => exec_flags_isDifference (cin := true) rfl,
    fun rd rs => exec_flags_isSum rfl⟩
  rw [← zext_eq]
  exact exec_flags_isDifference (cin := true) rfl

/-- Settles O14: the carry in is the `C` bit. -/
theorem carryArithmeticUsesTheCarryFlag : Obligations.CarryArithmeticUsesTheCarryFlag :=
  fun _ _ _ => ⟨exec_isSum rfl, exec_isDifference rfl⟩

/-- Settles O15: the minuend is the word 0. -/
theorem negateIsSubtractionFromZero : Obligations.NegateIsSubtractionFromZero :=
  fun _ _ _ => exec_isDifference (cin := true) rfl

/-! ## Logic and multiplication (R151, R156, R157, R164, R168 to R171) -/

/-- Settles O16: the bits of the result are those of the word operation that each puts. -/
theorem logicalOperationsKeepCarryAndOverflow : Obligations.LogicalOperationsKeepCarryAndOverflow := by
  intro s rd rs imm8
  refine ⟨exec_bitwise rfl fun k _ => BitVec.getLsbD_and, exec_bitwise rfl fun k _ => BitVec.getLsbD_xor,
    exec_bitwise rfl fun k _ => BitVec.getLsbD_or, exec_bitwise rfl fun k hk => ?_, exec_bitwise rfl fun k hk => ?_,
    ⟨_, rfl, dataFrame_setCpsr s rfl rfl, setNZ_isLogic _ _⟩, ?_⟩
  · simp [hk]
  · simp [hk]
  · obtain ⟨t, ht, hframe, hlogic, hres⟩ := exec_isLogic (i := .movImm rd imm8) (s := s) rfl
    have himm : (zext imm8).toNat = imm8.toNat := BitVec.toNat_setWidth_of_le (by decide)
    exact ⟨t, ht, hframe, hres ▸ himm, hlogic⟩

/-- A word and its signed reading differ by a multiple of 2^16. -/
theorem toInt_modEq_toNat (v : Word) : v.toInt ≡ v.toNat [ZMOD 65536] := by
  rw [BitVec.toInt_eq_toNat_bmod]
  exact Int.bmod_emod

/-- Settles O17: the two readings of the operands are congruent modulo 2^16, and so are the products. -/
theorem multiplyKeepsTheLowHalf : Obligations.MultiplyKeepsTheLowHalf := by
  intro s rd rs
  obtain ⟨t, ht, hframe, hlogic, hres⟩ := exec_isLogic (i := .mul rd rs) (s := s) rfl
  have hunsigned : (t.getReg rd).toNat = (s.getReg rd).toNat * (s.getReg rs).toNat % 65536 := by
    rw [hres, BitVec.toNat_ofNat]
  have hsigned : (s.getReg rd).toInt * (s.getReg rs).toInt ≡ (s.getReg rd).toNat * (s.getReg rs).toNat [ZMOD 65536] :=
    (toInt_modEq_toNat _).mul (toInt_modEq_toNat _)
  refine ⟨t, ht, hunsigned, ?_, hlogic, hframe⟩
  rw [hunsigned, hsigned]
  push_cast
  rfl

/-! ## Shifts (R142 to R144, R158 to R160, R163) -/

/-- Settles O18: the shifter is arithmetic for every amount, so for those of five bits. -/
theorem immediateShiftsAreArithmetic : Obligations.ImmediateShiftsAreArithmetic :=
  fun _ _ _ _ => ⟨exec_shift rfl (shift_lsl_isShiftLeft _ _ _), exec_shift rfl (shift_lsr_isShiftRight _ _ _),
    exec_shift rfl (shift_asr_isShiftArith _ _ _)⟩

/-- Settles O19: the amount is the number in the register, with no bit of it dropped. -/
theorem registerShiftsUseTheWholeAmount : Obligations.RegisterShiftsUseTheWholeAmount :=
  fun _ _ _ => ⟨exec_shift rfl (shift_lsl_isShiftLeft _ _ _), exec_shift rfl (shift_lsr_isShiftRight _ _ _),
    exec_shift rfl (shift_asr_isShiftArith _ _ _), exec_shift rfl (shift_ror_isRotateRight _ _ _)⟩

/-! ## Conditions after a compare (R172 item 3, R291) -/

/-- The condition that holds where this one does not: the rows of R291 stand in such pairs. -/
def Cond.opposite (k : Cond) : Cond :=
  match k with
  | .eq => .ne
  | .ne => .eq
  | .cs => .cc
  | .cc => .cs
  | .mi => .pl
  | .pl => .mi
  | .vs => .vc
  | .vc => .vs
  | .hi => .ls
  | .ls => .hi
  | .ge => .lt
  | .lt => .ge
  | .gt => .le
  | .le => .gt

theorem condHolds_opposite (k : Cond) (p : Cpsr) : condHolds k.opposite p = !condHolds k p := by
  cases k <;> simp [Cond.opposite, condHolds, bne]

theorem condHolds_opposite_iff {k : Cond} {p : Cpsr} {P : Prop} (h : condHolds k p = true ↔ P) :
    condHolds k.opposite p = true ↔ ¬ P := by
  rw [condHolds_opposite, Bool.not_eq_true', ← Bool.not_eq_true, h]

/-- Settles O20: CMP leaves the flags of the difference, on which one condition of each pair is decided and the other is
its opposite. -/
theorem branchesAfterCompareDecideTheRelation : Obligations.BranchesAfterCompareDecideTheRelation := by
  intro s rd rs
  obtain ⟨-, hcmp, -⟩ := comparesSetFlagsAndWriteNoRegister s
  obtain ⟨t, res, ht, h, -⟩ := hcmp rd rs
  refine ⟨t, ht, h.z_iff, condHolds_opposite_iff (k := .eq) h.z_iff, h.c_iff, ?_, h.n_iff, ?_, h.v_iff, ?_,
    h.condHolds_hi_iff, ?_, h.condHolds_ge_iff, ?_, h.condHolds_gt_iff, ?_⟩
  · exact (condHolds_opposite_iff (k := .cs) h.c_iff).trans not_le
  · exact (condHolds_opposite_iff (k := .mi) h.n_iff).trans not_le
  · exact (condHolds_opposite_iff (k := .vs) h.v_iff).trans (by omega)
  · exact (condHolds_opposite_iff h.condHolds_hi_iff).trans not_lt
  · exact (condHolds_opposite_iff h.condHolds_ge_iff).trans not_le
  · exact (condHolds_opposite_iff h.condHolds_gt_iff).trans not_lt

/-! ## ADD then ADC, SUB then SBC (R172 item 5) -/

/-- Settles O21: the first instruction leaves the high words, and the second leaves the low word of the result. -/
theorem doubleWordAddAndSubtract : Obligations.DoubleWordAddAndSubtract := by
  intro s rd ra rb rh rs hrh hrs
  constructor
  · obtain ⟨t, ht, hlo, hframe⟩ := (additionsAddAndSetAllFlags s).1 rd ra rb
    obtain ⟨u, hu, hhi, hframe'⟩ := (carryArithmeticUsesTheCarryFlag t rh rs).1
    rw [hframe.getReg_of_ne hrh.symm, hframe.getReg_of_ne hrs.symm] at hhi
    rw [← hframe'.getReg_of_ne hrh] at hlo
    exact ⟨t, u, ht, hu, hlo.double hhi⟩
  · obtain ⟨t, ht, hlo, hframe⟩ := (subtractionsSubtractAndSetAllFlags s).1 rd ra rb
    obtain ⟨u, hu, hhi, hframe'⟩ := (carryArithmeticUsesTheCarryFlag t rh rs).2
    rw [hframe.getReg_of_ne hrh.symm, hframe.getReg_of_ne hrs.symm] at hhi
    rw [← hframe'.getReg_of_ne hrh] at hlo
    exact ⟨t, u, ht, hu, hlo.double hhi⟩

/-! ## Sample words -/

/-- Settles O4: each word is a closed term, and its decoding is computed. -/
theorem sampleWordsDecodeAsTheSpecWritesThem : Obligations.SampleWordsDecodeAsTheSpecWritesThem := by
  unfold Obligations.SampleWordsDecodeAsTheSpecWritesThem
  decide

end Sys2Proof.Machine
end

section
/-! PROOFS. Format 6, Format 7 and the branches that save nothing (41_bx_hw_cpsr.md, 44_branch_swi_bl.md section 3):
`BX` and `B`, the three device instructions, the interrupt flag, the saved status and the returns from exceptions. -/

namespace Sys2Proof.Machine

open Sys2Proof.Claims

/-! ## Frames -/

theorem loadFrame_refl (ds : List Reg) (s : State) : LoadFrame ds s s :=
  ⟨fun _ _ => rfl, fun _ => rfl, ⟨rfl, rfl⟩, ⟨rfl, rfl, rfl⟩, ⟨rfl, rfl⟩, rfl, ⟨rfl, rfl⟩, rfl⟩

theorem loadFrame_setRegs {ds : List Reg} (s : State) {g : Regs} (h : ∀ r, r ∉ ds → g.get r = s.regs.get r) :
    LoadFrame ds s { s with regs := g } :=
  ⟨h, fun _ => rfl, ⟨rfl, rfl⟩, ⟨rfl, rfl, rfl⟩, ⟨rfl, rfl⟩, rfl, ⟨rfl, rfl⟩, rfl⟩

theorem loadFrame_setReg (s : State) (rd : Reg) (v : Word) : LoadFrame [rd] s (s.setReg rd v) :=
  loadFrame_setRegs s fun _ hr => Regs.get_set_of_ne _ _ (List.ne_of_not_mem_cons hr)

theorem State.setReg_getReg_self (s : State) (rd : Reg) (v : Word) : (s.setReg rd v).getReg rd = v :=
  Regs.get_set_self ..

/-! ## Returns from exceptions (R35, R211, R212) -/

theorem Cpsr.ofWord_eq_none_of_not_validStatus {w : Word} (h : validStatus w = false) : Cpsr.ofWord w = none := by
  rw [← Option.not_isSome_iff_eq_none, Cpsr.isSome_ofWord, h]
  exact Bool.false_ne_true

/-- What a status word that names a mode leaves in `CPSR`: all but its reserved bits, each flag from its own bit. -/
theorem Cpsr.exists_ofWord_of_validStatus {w : Word} (h : validStatus w = true) :
    ∃ p, Cpsr.ofWord w = some p ∧ p.toWord = w &&& 0xF09F#16 ∧ p.n = w.getLsbD 15 ∧ p.z = w.getLsbD 14 ∧
      p.c = w.getLsbD 13 ∧ p.v = w.getLsbD 12 ∧ p.i = w.getLsbD 7 := by
  obtain ⟨p, hp⟩ := Option.isSome_iff_exists.1 ((Cpsr.isSome_ofWord w).trans h)
  obtain ⟨-, hflags⟩ := (Cpsr.ofWord_eq_some_iff w p).1 hp
  exact ⟨p, hp, Cpsr.toWord_of_ofWord_eq_some hp, hflags⟩

theorem State.returnFromSwi_of_ofWord_eq_none {s : State} (h : Cpsr.ofWord s.spsrSwi = none) :
    s.returnFromSwi = .fault (.reservedMode (s.pc - 1#16) s.spsrSwi) := by
  rw [State.returnFromSwi, h]

theorem State.returnFromIrq_of_ofWord_eq_none {s : State} (h : Cpsr.ofWord s.spsrIrq = none) :
    s.returnFromIrq = .fault (.reservedMode (s.pc - 1#16) s.spsrIrq) := by
  rw [State.returnFromIrq, h]

/-- Settles O43: RSI completes exactly where `SPSR_swi` converts, and what it leaves in `CPSR` is the conversion. -/
theorem returnFromSoftwareInterrupt : Obligations.ReturnFromSoftwareInterrupt := by
  rintro s _ rfl
  constructor
  · intro hvalid
    obtain ⟨p, hp, hword, hn, hz, hc, hv, hi⟩ := Cpsr.exists_ofWord_of_validStatus hvalid
    exact ⟨_, (s.returnFromSwi_eq_next_iff _).2 ⟨p, hp, rfl⟩, hword, rfl, hn, hz, hc, hv, hi,
      loadFrame_refl _ _⟩
  · intro hreserved
    exact State.returnFromSwi_of_ofWord_eq_none (Cpsr.ofWord_eq_none_of_not_validStatus hreserved)

/-- Settles O44: RFI completes exactly where `SPSR_irq` converts; it writes `r0` and `SP_irq` besides `CPSR` and
`pc`. -/
theorem returnFromHardwareInterrupt : Obligations.ReturnFromHardwareInterrupt := by
  rintro s _ rfl
  constructor
  · intro hvalid
    obtain ⟨p, hp, hword, hn, hz, hc, hv, hi⟩ := Cpsr.exists_ofWord_of_validStatus hvalid
    exact ⟨_, (s.returnFromIrq_eq_next_iff _).2 ⟨p, hp, rfl⟩, hword, rfl,
      s.setReg_getReg_self .r0 (s.readMem s.spIrq), rfl, hn, hz, hc, hv, hi, loadFrame_setReg _ _ _⟩
  · intro hreserved
    exact State.returnFromIrq_of_ofWord_eq_none (Cpsr.ofWord_eq_none_of_not_validStatus hreserved)

/-! ## The saved status of the current mode (R215, R216) -/

theorem State.spsr_eq_some_iff (s : State) (w : Word) :
    s.spsr = some w ↔ (s.cpsr.m = .swi ∧ w = s.spsrSwi) ∨ (s.cpsr.m = .irq ∧ w = s.spsrIrq) := by
  unfold State.spsr
  cases s.cpsr.m <;> simp [eq_comm]

theorem exec_mrs_of_setSpsr_eq_some {s t : State} {rd : Reg} (h : s.setSpsr (s.getReg rd) = some t) :
    exec (.mrs rd) s = .next t := by
  show execMrs rd s = .next t
  rw [execMrs, h]

theorem exec_mrs_of_user {s : State} (h : s.cpsr.m = .user) (rd : Reg) : exec (.mrs rd) s = s.raiseIllegal := by
  show execMrs rd s = s.raiseIllegal
  rw [execMrs, (s.setSpsr_eq_none_iff _).2 h]

theorem exec_msr_of_spsr_eq_some {s : State} {w : Word} (h : s.spsr = some w) (rd : Reg) :
    ∃ t, exec (.msr rd) s = .next t ∧ t.getReg rd = w ∧ LoadFrame [rd] s t := by
  refine ⟨s.setReg rd w, ?_, s.setReg_getReg_self rd w, loadFrame_setReg s rd w⟩
  show execMsr rd s = .next (s.setReg rd w)
  rw [execMsr, h]

theorem exec_msr_of_user {s : State} (h : s.cpsr.m = .user) (rd : Reg) : exec (.msr rd) s = s.raiseIllegal := by
  show execMsr rd s = s.raiseIllegal
  rw [execMsr, s.spsr_eq_none_iff.2 h]

/-- Settles O46: the current mode's view of `SPSR` is the register of that mode, and there is none in User mode. -/
theorem savedStatusMovesInPrivilegedModes : Obligations.SavedStatusMovesInPrivilegedModes := by
  intro s rd
  refine ⟨fun hswi => ⟨?_, ?_⟩, fun hirq => ⟨?_, ?_⟩,
    fun huser => ⟨exec_mrs_of_user huser rd, exec_msr_of_user huser rd⟩⟩
  · exact exec_mrs_of_setSpsr_eq_some ((s.setSpsr_eq_some_iff _ _).2 (.inl ⟨hswi, rfl⟩))
  · exact exec_msr_of_spsr_eq_some ((s.spsr_eq_some_iff _).2 (.inl ⟨hswi, rfl⟩)) rd
  · exact exec_mrs_of_setSpsr_eq_some ((s.setSpsr_eq_some_iff _ _).2 (.inr ⟨hirq, rfl⟩))
  · exact exec_msr_of_spsr_eq_some ((s.spsr_eq_some_iff _).2 (.inr ⟨hirq, rfl⟩)) rd

/-! ## Devices (R203 to R207) -/

/-- Where no register is written twice, each holds the word it was written with. -/
theorem Regs.get_setAll_of_mem {ws : List (Reg × Word)} (hnodup : (ws.map Prod.fst).Nodup) {r : Reg} {v : Word}
    (hmem : (r, v) ∈ ws) (g : Regs) : (g.setAll ws).get r = v := by
  induction ws generalizing g with
  | nil => simp at hmem
  | cons e rest ih =>
    obtain ⟨hfirst, hrest⟩ := List.nodup_cons.1 hnodup
    obtain rfl | hmem := List.mem_cons.1 hmem
    · exact (Regs.get_setAll_of_notMem _ _ _ hfirst).trans (Regs.get_set_self ..)
    · exact ih hrest hmem _

/-- What a device of this number answers, where an absent one answers zeros (R204, R206). -/
def answerOf (n : Word) : DeviceId :=
  if n.toNat < Config.deviceCount.toNat then Config.query n
  else { idLo := 0, idHi := 0, version := 0, mfrLo := 0, mfrHi := 0 }

/-- The writes of `HWQ`: each word of the answer beside its register of `HWQ_MAP` (R206). -/
def queryWrites (q : DeviceId) : List (Reg × Word) :=
  [(.r0, q.idLo), (.r1, q.idHi), (.r2, q.version), (.r3, q.mfrLo), (.r4, q.mfrHi)]

theorem queryWrites_nodup (q : DeviceId) : ((queryWrites q).map Prod.fst).Nodup := by
  show [Reg.r0, .r1, .r2, .r3, .r4].Nodup
  decide

/-- No register of `HWQ_MAP` is written twice, so that each keeps its own word of the answer. -/
theorem Regs.get_setAll_queryWrites (g : Regs) (q : DeviceId) :
    (g.setAll (queryWrites q)).get .r0 = q.idLo ∧ (g.setAll (queryWrites q)).get .r1 = q.idHi ∧
      (g.setAll (queryWrites q)).get .r2 = q.version ∧ (g.setAll (queryWrites q)).get .r3 = q.mfrLo ∧
      (g.setAll (queryWrites q)).get .r4 = q.mfrHi := by
  have hwritten : ∀ e ∈ queryWrites q, (g.setAll (queryWrites q)).get e.1 = e.2 :=
    fun _ he => Regs.get_setAll_of_mem (queryWrites_nodup q) he g
  simpa [queryWrites] using hwritten

theorem hwqMap_zip_queryAnswer (n : Word) : Config.hwqMap.zip (queryAnswer n) = queryWrites (answerOf n) := by
  by_cases h : n.toNat < Config.deviceCount.toNat
  · rw [queryAnswer, if_pos ((devicePresent_iff n).2 h), answerOf, if_pos h]
    rfl
  · rw [queryAnswer, if_neg (mt (devicePresent_iff n).1 h), answerOf, if_neg h]
    rfl

theorem exec_hwq (rd : Reg) (s : State) :
    exec (.hwq rd) s = .next { s with regs := s.regs.setAll (queryWrites (answerOf (s.getReg rd))) } := by
  rw [← hwqMap_zip_queryAnswer]
  rfl

/-- Settles O59: HWQ makes the writes of the answer, and no register outside them. -/
theorem deviceQueryFillsFiveRegisters : Obligations.DeviceQueryFillsFiveRegisters := by
  intro s rd
  refine ⟨_, exec_hwq rd s, ?_, loadFrame_setRegs s fun r hr => Regs.get_setAll_of_notMem _ _ _ hr⟩
  rintro _ rfl
  exact Regs.get_setAll_queryWrites _ (answerOf (s.getReg rd))

/-- Settles O60: an absent device leaves the state as it is, a present one leaves its effect. -/
theorem deviceSignalKeepsToItsFootprint : Obligations.DeviceSignalKeepsToItsFootprint := by
  intro s rd
  cases h : devicePresent (s.getReg rd) with
  | false =>
    have habsent : ¬ (s.getReg rd).toNat < Config.deviceCount.toNat := by
      rw [← devicePresent_iff, h]
      exact Bool.false_ne_true
    refine ⟨s, congrArg Host.Outcome.next (s.signalDevice_of_absent _ h), rfl, rfl, ⟨rfl, rfl⟩, ⟨rfl, rfl, rfl⟩,
      ⟨rfl, rfl⟩, rfl, fun _ => rfl, fun e _ => ?_⟩
    rw [if_neg habsent]
  | true =>
    refine ⟨s.applyHwi _, congrArg Host.Outcome.next (s.signalDevice_of_present _ h), rfl, rfl, ⟨rfl, rfl⟩,
      ⟨rfl, rfl, rfl⟩, ⟨rfl, rfl⟩, rfl, fun hlast => ?_, ?_⟩
    · rw [hlast, devicePresent_last] at h
      exact absurd h Bool.false_ne_true
    · rintro _ rfl
      rw [if_pos ((devicePresent_iff _).1 h)]
      exact ⟨rfl, rfl, rfl, fun a ha => Memory.read_writeAll_of_forall_ne _ _ a ha⟩

/-- Settles O58: HWN writes the parameter itself. -/
theorem deviceCountIsDelivered : Obligations.DeviceCountIsDelivered :=
  fun s rd => ⟨s.setReg rd Config.deviceCount, rfl, s.setReg_getReg_self rd _, loadFrame_setReg s rd _⟩

/-! ## The branches that save nothing, and the interrupt flag (R201, R213, R214, R299) -/

/-- Settles O23: the offset of B is sign-extended, which is the 16-bit word of its signed value. -/
theorem branchesToRegisterAndOffset : Obligations.BranchesToRegisterAndOffset := by
  refine fun s => ⟨fun ra => rfl, fun imm11 => ?_⟩
  rw [← sext_eq]
  rfl

/-- Settles O45: neither looks at the mode. -/
theorem interruptFlagSetAndClear : Obligations.InterruptFlagSetAndClear :=
  fun _ => ⟨rfl, rfl⟩

end Sys2Proof.Machine
end

section
/-! PROOFS. Formats 8, 9, 11 and 13, single-word loads and stores (42_load_store.md). Each of the four shapes of the
chapter, a load, a store, and either with a post-incremented base, is settled once for every address and offset; an
instruction's clause is then its shape at the address its own rule names. -/

namespace Sys2Proof.Machine

open Sys2Proof.Claims

/-! ## Frames and the state after an access -/

theorem loadFrame_setReg_setReg (s : State) (rd rb : Reg) (v w : Word) :
    LoadFrame [rd, rb] s ((s.setReg rd v).setReg rb w) := by
  refine loadFrame_setRegs s fun r hr => ?_
  obtain ⟨hrd, hrb⟩ : r ≠ rd ∧ r ≠ rb := by simpa using hr
  rw [Regs.get_set_of_ne _ _ hrb]
  exact Regs.get_set_of_ne _ _ hrd

/-- The word at `a` is the first, and only, word of the range of length 1. -/
theorem keepsMemoryOutside_write (s : State) (g : Regs) (a v : Word) :
    KeepsMemoryOutside a 1 s { s with regs := g, mem := s.mem.write a v } := by
  intro b hb
  have hne : b ≠ a := by simpa using hb 0 Nat.one_pos
  exact s.mem.read_write_of_ne v hne

theorem storeFrame_write {ds : List Reg} (s : State) {g : Regs} (a v : Word)
    (h : ∀ r, r ∉ ds → g.get r = s.regs.get r) :
    StoreFrame ds a 1 s { s with regs := g, mem := s.mem.write a v } :=
  ⟨h, keepsMemoryOutside_write s g a v, ⟨rfl, rfl⟩, ⟨rfl, rfl, rfl⟩, ⟨rfl, rfl⟩, rfl, ⟨rfl, rfl⟩, rfl⟩

theorem State.setReg_getReg_of_ne (s : State) {rd r : Reg} (v : Word) (h : r ≠ rd) :
    (s.setReg rd v).getReg r = s.getReg r :=
  Regs.get_set_of_ne _ _ h

theorem State.writeMem_readMem_self (s : State) (a v : Word) : (s.writeMem a v).readMem a = v :=
  s.mem.read_write_self a v

/-! ## Instructions by the access they make (R230) -/

section
variable {i : Instr} {s : State} {rd rb : Reg} {a v w : Word}

theorem exec_load (h : exec i s = .next (s.setReg rd (s.readMem a))) :
    ∃ t, exec i s = .next t ∧ LoadFrame [rd] s t ∧ t.getReg rd = s.readMem a :=
  ⟨_, h, loadFrame_setReg s rd _, s.setReg_getReg_self rd _⟩

theorem exec_store (h : exec i s = .next (s.writeMem a v)) :
    ∃ t, exec i s = .next t ∧ StoreFrame [] a 1 s t ∧ t.readMem a = v :=
  ⟨_, h, storeFrame_write s a v fun _ _ => rfl, s.writeMem_readMem_self a v⟩

/-- The base is written last, so that it ends as `w` whichever `rd` is (R238, D14). -/
theorem exec_loadPost (h : exec i s = .next ((s.setReg rd (s.readMem a)).setReg rb w)) :
    ∃ t, exec i s = .next t ∧ LoadFrame [rd, rb] s t ∧ t.getReg rb = w ∧ (rd ≠ rb → t.getReg rd = s.readMem a) := by
  refine ⟨_, h, loadFrame_setReg_setReg s rd rb _ w, State.setReg_getReg_self _ rb w, fun hne => ?_⟩
  rw [State.setReg_getReg_of_ne _ w hne, State.setReg_getReg_self]

theorem exec_storePost (h : exec i s = .next ((s.writeMem a v).setReg rb w)) :
    ∃ t, exec i s = .next t ∧ StoreFrame [rb] a 1 s t ∧ t.readMem a = v ∧ t.getReg rb = w := by
  refine ⟨_, h, ?_, ?_, State.setReg_getReg_self _ rb w⟩
  · exact storeFrame_write s a v fun _ hr => Regs.get_set_of_ne _ _ (List.ne_of_not_mem_cons hr)
  · rw [State.setReg_readMem, State.writeMem_readMem_self]

end

/-! ## Pre-indexed accesses (R231, R234, R236, R241, R243, R248, R249) -/

/-- Settles O29: four loads; an immediate offset is zero-extended, which is the 16-bit word of its value. -/
theorem loadsReadTheAddressedWord : Obligations.LoadsReadTheAddressedWord := by
  intro s rd rb ra imm5 imm8
  simp only [← zext_eq]
  exact ⟨exec_load rfl, exec_load rfl, exec_load rfl, exec_load rfl⟩

/-- Settles O30: three stores, with the offsets of the loads. -/
theorem storesWriteTheAddressedWord : Obligations.StoresWriteTheAddressedWord := by
  intro s rd rb ra imm5 imm8
  simp only [← zext_eq]
  exact ⟨exec_store rfl, exec_store rfl, exec_store rfl⟩

/-! ## Post-incremented bases (R235, R237, R242, R244) -/

/-- Settles O31: a register and an immediate offset, each added to the base as it was before the load. -/
theorem postIncrementLoadsWriteTheBaseLast : Obligations.PostIncrementLoadsWriteTheBaseLast := by
  intro s rd rb ra imm5
  rw [← zext_eq]
  exact ⟨exec_loadPost rfl, exec_loadPost rfl⟩

/-- Settles O32: the stored word and the new base are both taken from the state before the store. -/
theorem postIncrementStoresStoreTheOldValue : Obligations.PostIncrementStoresStoreTheOldValue := by
  intro s rd rb ra imm5
  rw [← zext_eq]
  exact ⟨exec_storePost rfl, exec_storePost rfl⟩

end Sys2Proof.Machine
end

section
/-! PROOFS. Formats 14 to 17: addresses formed from `PC` and `SP`, the adjustments of `SP`, push and pop, and multiple
load and store (43_address_stack_multiple.md). The laws of multi-word stores and loads say which word stands where; what
is shown here is the state around them: the banked stack pointer, the frame, and what a pop reads after a push. -/

namespace Sys2Proof.Machine

open Sys2Proof.Claims

/-! ## Register lists (R109, R110, R267) -/

theorem regIndex_eq_num (r : Reg) : regIndex r = r.num.toNat := by cases r <;> rfl

theorem mem_allRegs (r : Reg) : r ∈ allRegs := by cases r <;> decide

theorem mem_listedRegs_iff (rlist : BitVec 8) (r : Reg) :
    r ∈ listedRegs rlist ↔ rlist.getLsbD r.num.toNat = true := by
  rw [listedRegs, List.mem_filter, regIndex_eq_num, and_iff_right (mem_allRegs r)]

theorem allRegs_ascending : allRegs.Pairwise (fun a b => a.num.toNat < b.num.toNat) := by decide

/-- Settles O36: a list keeps the registers whose bit is set, in the order of all the registers. -/
theorem registerListsNameTheirBitsInAscendingOrder : Obligations.RegisterListsNameTheirBitsInAscendingOrder :=
  fun rlist => ⟨mem_listedRegs_iff rlist, allRegs_ascending.filter _⟩

/-! ## Addresses (R261, R262) -/

theorem exec_setReg {i : Instr} {s : State} {rd : Reg} {v : Word} (h : exec i s = .next (s.setReg rd v)) :
    ∃ t, exec i s = .next t ∧ LoadFrame [rd] s t ∧ t.getReg rd = v :=
  ⟨_, h, loadFrame_setReg s rd v, s.setReg_getReg_self rd v⟩

/-- Settles O34: both write one register; the immediate is zero-extended, which is the 16-bit word of its value. -/
theorem addressesFormedFromPcAndSp : Obligations.AddressesFormedFromPcAndSp := by
  intro s rd imm8
  rw [← zext_eq]
  exact ⟨exec_setReg rfl, exec_setReg rfl⟩

/-! ## The current mode's stack pointer (R26, R28) -/

theorem State.exists_setSp_eq (s : State) (v : Word) :
    ∃ a b, s.setSp v = { s with spUsr := a, spIrq := b } := by
  unfold State.setSp
  cases s.cpsr.m with
  | user | swi => exact ⟨v, s.spIrq, rfl⟩
  | irq => exact ⟨s.spUsr, v, rfl⟩

theorem keepsOtherSp_setSp (s : State) (g : Regs) (v : Word) :
    KeepsOtherSp s (State.setSp { s with regs := g } v) :=
  ⟨fun hirq => by simp [hirq], fun hnot => by simp [hnot]⟩

theorem loadFrame_setSp {ds : List Reg} (s : State) {g : Regs} (v : Word)
    (h : ∀ r, r ∉ ds → g.get r = s.regs.get r) :
    LoadFrame ds
      { s with
        spUsr := (State.setSp { s with regs := g } v).spUsr
        spIrq := (State.setSp { s with regs := g } v).spIrq }
      (State.setSp { s with regs := g } v) := by
  obtain ⟨a, b, hsp⟩ := State.exists_setSp_eq { s with regs := g } v
  rw [hsp]
  exact loadFrame_setRegs { s with spUsr := a, spIrq := b } h

theorem exec_setSp {i : Instr} {s : State} {v : Word} (h : exec i s = .next (s.setSp v)) :
    ∃ t, exec i s = .next t ∧ t.sp = v ∧ KeepsOtherSp s t ∧
      LoadFrame [] { s with spUsr := t.spUsr, spIrq := t.spIrq } t :=
  ⟨_, h, s.setSp_sp v, keepsOtherSp_setSp s s.regs v, loadFrame_setSp s v fun _ _ => rfl⟩

/-- Settles O35: both write the current mode's stack pointer alone. -/
theorem stackPointerAdjustments : Obligations.StackPointerAdjustments := by
  intro s imm7
  rw [← zext_eq]
  exact ⟨exec_setSp rfl, exec_setSp rfl⟩

/-! ## Push (R268) -/

/-- A push of fewer than 2^16 words does not wrap onto itself, so that each of them is read back. -/
theorem exec_pushWords {i : Instr} {s : State} {vs : List Word} (hlen : vs.length < 65536)
    (h : exec i s = .next (s.pushWords vs)) :
    ∃ t, exec i s = .next t ∧ t.sp = s.sp - BitVec.ofNat 16 vs.length ∧
      (∀ (k : Nat) (hk : k < vs.length), t.readMem (t.sp + BitVec.ofNat 16 k) = vs[k]) ∧
      KeepsOtherSp s t ∧
      StoreFrame [] (s.sp - BitVec.ofNat 16 vs.length) vs.length { s with spUsr := t.spUsr, spIrq := t.spIrq } t := by
  obtain ⟨hsp, hwords, hother, hframe⟩ := s.pushWords_spec vs hlen
  refine ⟨_, h, hsp, fun k hk => ?_, hother, hframe⟩
  rw [hsp, hwords k hk]

theorem getRegs_listedRegs_length_le (s : State) (rlist : BitVec 8) : (s.getRegs (listedRegs rlist)).length ≤ 8 :=
  (s.getRegs_length _).trans_le (listedRegs_length_le rlist)

/-- Settles O37: a push of at most eight registers, and `LR` above them as the ninth word. -/
theorem pushStoresTheListBelowTheStackPointer : Obligations.PushStoresTheListBelowTheStackPointer := by
  intro s rlist
  have hlist : (s.getRegs (listedRegs rlist)).length ≤ 8 := getRegs_listedRegs_length_le s rlist
  have hlr : (s.getRegs (listedRegs rlist) ++ [s.lr]).length < 65536 := by
    rw [List.length_append, List.length_singleton]
    omega
  exact ⟨exec_pushWords (by omega) rfl, exec_pushWords hlr rfl⟩

/-! ## Pop (R269) -/

theorem loadFrame_branchTo {ds : List Reg} {s t : State} (h : LoadFrame ds s t) (w : Word) :
    LoadFrame ds { s with pc := w } (t.branchTo w) := by
  obtain ⟨hregs, hmem, hsp, hlr, hspsr, hcpsr, hdev, -⟩ := h
  exact ⟨hregs, hmem, hsp, hlr, hspsr, hcpsr, hdev, rfl⟩

/-- The word for `PC` is one more word of the pop: `SP` ends past it. -/
theorem exec_popPc (rlist : BitVec 8) (s : State) :
    exec (.popPc rlist) s =
      .next ((State.setSp { s with regs := s.regs.loadWords s.mem s.sp (listedRegs rlist) }
        (s.sp + BitVec.ofNat 16 ((listedRegs rlist).length + 1))).branchTo
          (s.readMem (s.sp + BitVec.ofNat 16 (listedRegs rlist).length))) := by
  show execPopPc rlist s = _
  rw [execPopPc, State.popRegs, State.setSp_setSp, BitVec.add_assoc, ← BitVec.ofNat_add]

/-- Settles O38: POP is the pop of the listed registers; POP with PC moves `SP` once more and then branches. -/
theorem popLoadsTheListFromTheStackPointer : Obligations.PopLoadsTheListFromTheStackPointer := by
  intro s rlist
  have hnodup := listedRegs_nodup rlist
  refine ⟨⟨_, rfl, s.popRegs_spec _ hnodup⟩, _, exec_popPc rlist s, State.setSp_sp .., fun k hk => ?_, rfl,
    keepsOtherSp_setSp s _ _, ?_⟩
  · rw [State.branchTo_getReg, State.setSp_getReg]
    exact Regs.get_loadWords _ _ _ _ hnodup k hk
  · exact loadFrame_branchTo (loadFrame_setSp s _ fun r hr => Regs.get_loadWords_of_notMem _ _ _ _ r hr) _

/-! ## Pop after push (R307) -/

/-- Settles O39: the pop reads the pushed words where they stand, the last of them, `LR`, into `pc`. -/
theorem popRestoresWhatPushSaved : Obligations.PopRestoresWhatPushSaved := by
  intro s rlist
  obtain ⟨-, t, hpush, hpushSp, hstored, -⟩ := pushStoresTheListBelowTheStackPointer s rlist
  refine ⟨t, hpush, fun u hmem husp => ?_⟩
  obtain ⟨-, v, hpop, hpopSp, hloaded, hpc, -⟩ := popLoadsTheListFromTheStackPointer u rlist
  have hread : ∀ a, u.readMem a = t.readMem a := fun a => by rw [State.readMem_eq, hmem, State.readMem_eq]
  refine ⟨v, hpop, fun r hr => ?_, ?_, ?_⟩
  · obtain ⟨k, hk, rfl⟩ := List.getElem_of_mem hr
    have hkr : k < (s.getRegs (listedRegs rlist)).length := by rwa [State.getRegs_length]
    rw [hloaded k hk, hread, husp, hstored k (by simp only [List.length_append]; omega),
      List.getElem_append_left hkr, State.getRegs_getElem]
  · rw [hpopSp, husp, hpushSp, List.length_append, State.getRegs_length, List.length_singleton, BitVec.sub_add_cancel]
  · have hlast := hstored (s.getRegs (listedRegs rlist)).length (by simp)
    rw [hpc, hread, husp, ← s.getRegs_length, hlast, List.getElem_concat_length rfl]

/-! ## Multiple load and store (R272 to R275) -/

theorem storeFrame_storeWords {ds : List Reg} (s : State) {g : Regs} (a : Word) (vs : List Word)
    (h : ∀ r, r ∉ ds → g.get r = s.regs.get r) :
    StoreFrame ds a vs.length s { s with regs := g, mem := s.mem.storeWords a vs } :=
  ⟨h, fun b hb => s.mem.read_storeWords_of_forall_ne a b vs hb, ⟨rfl, rfl⟩, ⟨rfl, rfl, rfl⟩, ⟨rfl, rfl⟩, rfl,
    ⟨rfl, rfl⟩, rfl⟩

/-- Settles O40: the words are the registers of the state before the store; the base is written last. -/
theorem storeMultipleStoresTheListUpward : Obligations.StoreMultipleStoresTheListUpward := by
  intro s rb rlist
  refine ⟨fun hne => ⟨_, if_neg hne, State.setReg_getReg_self .., fun k hk => ?_, ?_⟩, fun hempty => ?_⟩
  · have hlist := getRegs_listedRegs_length_le s rlist
    have hkr : k < (s.getRegs (listedRegs rlist)).length := by rwa [State.getRegs_length]
    rw [State.setReg_readMem, State.readMem_eq, Memory.read_storeWords _ _ _ (by omega) k hkr, State.getRegs_getElem]
  · rw [← s.getRegs_length]
    exact storeFrame_storeWords s _ _ fun _ hr => Regs.get_set_of_ne _ _ (List.ne_of_not_mem_cons hr)
  · exact if_pos hempty

/-- Settles O41: the base is written last, over what was loaded into it. -/
theorem loadMultipleLoadsTheListUpward : Obligations.LoadMultipleLoadsTheListUpward := by
  intro s rb rlist
  refine ⟨fun hne => ⟨_, if_neg hne, State.setReg_getReg_self .., fun k hk hbase => ?_, ?_⟩, fun hempty => ?_⟩
  · rw [State.setReg_getReg_of_ne _ _ hbase]
    exact Regs.get_loadWords _ _ _ _ (listedRegs_nodup rlist) k hk
  · refine loadFrame_setRegs s fun r hr => ?_
    obtain ⟨hbase, hlisted⟩ := List.ne_and_not_mem_of_not_mem_cons hr
    rw [Regs.get_set_of_ne _ _ hbase, Regs.get_loadWords_of_notMem _ _ _ _ _ hlisted]
  · exact if_pos hempty

end Sys2Proof.Machine
end

section
/-! PROOFS. Formats 18, 19, 21 and 22 and `BLX` (44_branch_swi_bl.md, 41_bx_hw_cpsr.md section 1): the conditional
branches, the branches that link, and the software interrupt with its return. A branch that links is a write of the
current mode's `LR` before a write of `pc`; the frame of that write is settled once for every word and every mode. -/

namespace Sys2Proof.Machine

open Sys2Proof.Claims

/-! ## Conditional branches (R291, R292) -/

/-- The predicate column of R291, as a proposition. -/
def Cond.Predicate (k : Cond) (p : Cpsr) : Prop :=
  match k with
  | .eq => p.z = true
  | .ne => p.z = false
  | .cs => p.c = true
  | .cc => p.c = false
  | .mi => p.n = true
  | .pl => p.n = false
  | .vs => p.v = true
  | .vc => p.v = false
  | .hi => p.c = true ∧ p.z = false
  | .ls => p.c = false ∨ p.z = true
  | .ge => p.n = p.v
  | .lt => p.n ≠ p.v
  | .gt => p.z = false ∧ p.n = p.v
  | .le => p.z = true ∨ p.n ≠ p.v

theorem condHolds_iff_predicate (k : Cond) (p : Cpsr) : condHolds k p = true ↔ k.Predicate p := by
  cases k <;> simp [condHolds, Cond.Predicate]

theorem exec_branchIf {i : Instr} {s : State} {k : Cond} {imm8 : BitVec 8} {P : Prop} [Decidable P]
    (h : exec i s = .next (s.branchIf k imm8)) (hk : condHolds k s.cpsr = true ↔ P) :
    exec i s = .next { s with pc := if P then s.pc + BitVec.ofInt 16 imm8.toInt else s.pc } := by
  rw [h, State.branchIf_eq, ← sext_eq]
  simp only [hk]

/-- Settles O22: each row branches on its own condition, and a condition is its predicate of R291. -/
theorem conditionalBranchesFollowTheConditionTable : Obligations.ConditionalBranchesFollowTheConditionTable :=
  fun _ s =>
    have hcond (k : Cond) := condHolds_iff_predicate k s.cpsr
    ⟨exec_branchIf rfl (hcond .eq), exec_branchIf rfl (hcond .ne), exec_branchIf rfl (hcond .cs),
      exec_branchIf rfl (hcond .cc), exec_branchIf rfl (hcond .mi), exec_branchIf rfl (hcond .pl),
      exec_branchIf rfl (hcond .vs), exec_branchIf rfl (hcond .vc), exec_branchIf rfl (hcond .hi),
      exec_branchIf rfl (hcond .ls), exec_branchIf rfl (hcond .ge), exec_branchIf rfl (hcond .lt),
      exec_branchIf rfl (hcond .gt), exec_branchIf rfl (hcond .le)⟩

/-! ## The current mode's link register (R27, R28) -/

theorem State.exists_setLr_eq (s : State) (v : Word) :
    ∃ a b c, s.setLr v = { s with lrUsr := a, lrSwi := b, lrIrq := c } := by
  unfold State.setLr
  cases s.cpsr.m with
  | user => exact ⟨v, s.lrSwi, s.lrIrq, rfl⟩
  | swi => exact ⟨s.lrUsr, v, s.lrIrq, rfl⟩
  | irq => exact ⟨s.lrUsr, s.lrSwi, v, rfl⟩

theorem keepsOtherLr_setLr (s : State) (v : Word) : KeepsOtherLr s (s.setLr v) :=
  ⟨fun huser => by simp [huser], fun hswi => by simp [hswi], fun hirq => by simp [hirq]⟩

theorem loadFrame_setLr (s : State) (v : Word) :
    LoadFrame []
      { s with lrUsr := (s.setLr v).lrUsr, lrSwi := (s.setLr v).lrSwi, lrIrq := (s.setLr v).lrIrq } (s.setLr v) := by
  obtain ⟨a, b, c, hlr⟩ := s.exists_setLr_eq v
  rw [hlr]
  exact loadFrame_refl _ _

/-- A branch that links: `LR` of the current mode and `pc` are written, and nothing else. -/
theorem exec_call {i : Instr} {s : State} {v w : Word} (h : exec i s = .next ((s.setLr v).branchTo w)) :
    ∃ t, exec i s = .next t ∧ t.lr = v ∧ t.pc = w ∧ KeepsOtherLr s t ∧
      LoadFrame [] { s with pc := t.pc, lrUsr := t.lrUsr, lrSwi := t.lrSwi, lrIrq := t.lrIrq } t :=
  ⟨_, h, s.setLr_lr v, rfl, keepsOtherLr_setLr s v, loadFrame_branchTo (loadFrame_setLr s v) w⟩

/-! ## The two halves of an address (R303 to R305) -/

theorem zext_toNat {k : Nat} (hk : k ≤ 16) (x : BitVec k) : (zext x).toNat = x.toNat :=
  BitVec.toNat_setWidth_of_le hk

theorem zext_shiftLeft_eight_toNat (hi : BitVec 8) : (zext hi <<< 8).toNat = hi.toNat * 256 := by
  rw [BitVec.toNat_shiftLeft, zext_toNat (by decide), Nat.shiftLeft_eq]
  omega

/-- The halves do not overlap, so that their `OR` is their sum. -/
theorem zext_shiftLeft_eight_or_toNat (hi lo : BitVec 8) :
    (zext hi <<< 8 ||| zext lo).toNat = hi.toNat * 256 + lo.toNat := by
  rw [BitVec.toNat_or, zext_shiftLeft_eight_toNat, zext_toNat (by decide)]
  simpa [Nat.shiftLeft_eq] using (Nat.shiftLeft_add_eq_or_of_lt lo.isLt hi.toNat).symm

theorem zext_getLsbD {n k : Nat} (x : BitVec n) (hk : k < 16) : (zext x).getLsbD k = x.getLsbD k := by
  simp [zext, hk]

/-! ## Branches that link (R202, R301, R303, R304) -/

/-- Settles O24: three of them are one call each, and the high half writes `LR` alone. -/
theorem linkingBranchesWriteTheCurrentLinkRegister : Obligations.LinkingBranchesWriteTheCurrentLinkRegister := by
  intro s ra imm11 imm8
  refine ⟨exec_call rfl, ?_, ?_, ?_⟩
  · obtain ⟨t, ht, hlr, hpc, hframe⟩ := exec_call (i := .blImm imm11) (s := s) rfl
    exact ⟨t, ht, hlr, by rw [hpc, zext_toNat (by decide)], hframe⟩
  · refine ⟨_, rfl, ?_, s.setLr_pc _, keepsOtherLr_setLr s _, loadFrame_setLr s _⟩
    rw [State.setLr_lr, zext_shiftLeft_eight_toNat]
  · obtain ⟨t, ht, hlr, hpc, hframe⟩ := exec_call (i := .blLo imm8) (s := s) rfl
    refine ⟨t, ht, hlr, fun k hk => ?_, hframe⟩
    rw [hpc, BitVec.getLsbD_or, zext_getLsbD imm8 hk]

/-- Settles O25: the low half finds in `LR` what the high half left there, whichever mode's `LR` it is. -/
theorem longBranchPairReachesItsTarget : Obligations.LongBranchPairReachesItsTarget := by
  intro s hi lo
  refine ⟨_, _, rfl, rfl, ?_, ?_, by simp, by simp, fun a => by simp⟩
  · rw [State.branchTo_pc, State.advancePc_lr, State.setLr_lr, zext_shiftLeft_eight_or_toNat]
  · rw [State.branchTo_lr, State.setLr_lr, State.advancePc_pc, State.setLr_pc]

/-! ## Software interrupt and return (R212, R296, R339) -/

/-- Settles O42: SWI is the entry alone; the status word it leaves is computed from its parameter. -/
theorem softwareInterruptEntry : Obligations.SoftwareInterruptEntry := by
  intro s imm8
  have hword : Config.swiCpsr.toWord = 0x0011#16 := by decide
  exact ⟨s.enterSwi, rfl, s.enterSwi_lrSwi, s.enterSwi_spsrSwi, hword, rfl, rfl, s.enterSwi_pc,
    fun r _ => s.enterSwi_getReg r, s.enterSwi_readMem, ⟨s.enterSwi_spUsr, s.enterSwi_spIrq⟩, s.enterSwi_lrUsr,
    s.enterSwi_lrIrq, s.enterSwi_spsrIrq, ⟨s.enterSwi_devState, s.enterSwi_boundary⟩⟩

/-- Settles O48: the status word SWI saves converts back to the caller's `CPSR`, so that RSI completes with it. -/
theorem softwareInterruptAndReturnRestoreTheCaller : Obligations.SoftwareInterruptAndReturnRestoreTheCaller := by
  intro s imm8
  refine ⟨s.enterSwi, rfl, fun u hlr hspsr => ?_⟩
  have hcpsr : Cpsr.ofWord u.spsrSwi = some s.cpsr := by rw [hspsr, State.enterSwi_spsrSwi, Cpsr.ofWord_toWord]
  exact ⟨_, (u.returnFromSwi_eq_next_iff _).2 ⟨s.cpsr, hcpsr, rfl⟩, hlr, rfl, rfl, ⟨rfl, rfl⟩, fun _ => rfl⟩

end Sys2Proof.Machine
end

section
/-! PROOFS. Exceptions (60_exceptions.md): which instructions complete and how the others stop, what a step does with an
illegal word and with an offered interrupt, the return from it, and what may change the mode and `I`. -/

namespace Sys2Proof.Machine

open Sys2Proof.Claims

/-! ## Which instructions complete, and how the others stop (R35, R122, R330, R341) -/

theorem wellFormed_of_executable {i : Instr} {s : State} (h : executable i s = true) : i.wellFormed = true :=
  (Bool.and_eq_true_iff.1 h).1

theorem exists_exec_mrs_of_not_user {s : State} (h : s.cpsr.m ≠ .user) (rd : Reg) :
    ∃ t, exec (.mrs rd) s = .next t := by
  obtain ⟨t, ht⟩ := Option.ne_none_iff_exists'.1 (mt (s.setSpsr_eq_none_iff (s.getReg rd)).1 h)
  exact ⟨t, exec_mrs_of_setSpsr_eq_some ht⟩

theorem exists_exec_msr_of_not_user {s : State} (h : s.cpsr.m ≠ .user) (rd : Reg) :
    ∃ t, exec (.msr rd) s = .next t := by
  obtain ⟨w, hw⟩ := Option.ne_none_iff_exists'.1 (mt s.spsr_eq_none_iff.1 h)
  obtain ⟨t, ht, -⟩ := exec_msr_of_spsr_eq_some hw rd
  exact ⟨t, ht⟩

/-- Four instructions look at the state before they complete, two at their list; every other instruction is one
update of the state. -/
theorem exists_exec_of_executable {i : Instr} {s : State} (h : executable i s = true) : ∃ t, exec i s = .next t := by
  have hwf : i.wellFormed = true := wellFormed_of_executable h
  cases i with
  | mrs rd => exact exists_exec_mrs_of_not_user (by simpa [executable, hwf] using h) rd
  | msr rd => exact exists_exec_msr_of_not_user (by simpa [executable, hwf] using h) rd
  | rsi =>
    obtain ⟨p, hp, -⟩ := Cpsr.exists_ofWord_of_validStatus (w := s.spsrSwi) h
    exact ⟨_, (s.returnFromSwi_eq_next_iff _).2 ⟨p, hp, rfl⟩⟩
  | rfi =>
    obtain ⟨p, hp, -⟩ := Cpsr.exists_ofWord_of_validStatus (w := s.spsrIrq) h
    exact ⟨_, (s.returnFromIrq_eq_next_iff _).2 ⟨p, hp, rfl⟩⟩
  | stmia rb rlist | ldmia rb rlist =>
    have hne : rlist ≠ 0#8 := by simpa [Instr.wellFormed] using hwf
    exact ⟨_, if_neg hne⟩
  | illegalF6 | illegalF7 | unallocated0100010 | unusedF10 | unusedF12 | unallocated1011x0001 | unallocated1011x0010
  | unallocated1011x0011 | unallocated1011x0110 | unallocated1011x0111 | unallocated1011x1000 | unallocated1011x1001
  | unallocated1011x1010 | unallocated1011x1011 | unallocated1011x1110 | unallocated1011x1111 | illegalCond1110
  | unallocated11101 => cases hwf
  | _ => exact ⟨_, rfl⟩

/-- How what has no effect stops: `RSI` and `RFI` at a reserved mode, everything else as an illegal instruction. -/
theorem exec_of_executable_eq_false {i : Instr} {s : State} (h : executable i s = false) :
    exec i s = s.raiseIllegal ∨
      (i = .rsi ∧ exec i s = .fault (.reservedMode (s.pc - 1#16) s.spsrSwi)) ∨
      (i = .rfi ∧ exec i s = .fault (.reservedMode (s.pc - 1#16) s.spsrIrq)) := by
  cases hwf : i.wellFormed with
  | false => exact .inl (exec_of_wellFormed_eq_false hwf s)
  | true =>
    cases i with
    | mrs rd => exact .inl (exec_mrs_of_user (by simpa [executable, hwf] using h) rd)
    | msr rd => exact .inl (exec_msr_of_user (by simpa [executable, hwf] using h) rd)
    | rsi =>
      have hnone : Cpsr.ofWord s.spsrSwi = none := Cpsr.ofWord_eq_none_of_not_validStatus h
      exact .inr (.inl ⟨rfl, State.returnFromSwi_of_ofWord_eq_none hnone⟩)
    | rfi =>
      have hnone : Cpsr.ofWord s.spsrIrq = none := Cpsr.ofWord_eq_none_of_not_validStatus h
      exact .inr (.inr ⟨rfl, State.returnFromIrq_of_ofWord_eq_none hnone⟩)
    | _ => simp [executable, hwf] at h

/-- Settles O50: an executable instruction completes, and none of the stops of the others is a next state. -/
theorem instructionsCompleteExactlyWhenExecutable : Obligations.InstructionsCompleteExactlyWhenExecutable := by
  refine fun i s => ⟨?_, exists_exec_of_executable⟩
  rintro ⟨t, ht⟩
  by_contra hex
  obtain h | ⟨-, h⟩ | ⟨-, h⟩ := exec_of_executable_eq_false (Bool.eq_false_of_not_eq_true hex)
  · exact s.raiseIllegal_ne_next t (h.symm.trans ht)
  · cases h.symm.trans ht
  · cases h.symm.trans ht

/-- Settles O51: what is executable does not stop, and what is not has one of the listed stops. -/
theorem everyStopIsOneOfTheTwoModelFaults : Obligations.EveryStopIsOneOfTheTwoModelFaults := by
  intro i s
  cases hex : executable i s with
  | true =>
    obtain ⟨t, ht⟩ := exists_exec_of_executable hex
    rw [ht]
    exact ⟨nofun, nofun⟩
  | false =>
    obtain h | ⟨hi, h⟩ | ⟨hi, h⟩ := exec_of_executable_eq_false hex
    · rw [h]
      exact ⟨s.raiseIllegal_ne_refused, fun _ hf => .inl (Host.Outcome.fault.inj hf).symm⟩
    · rw [h]
      exact ⟨nofun, fun _ hf => .inr (.inl ⟨hi, (Host.Outcome.fault.inj hf).symm⟩)⟩
    · rw [h]
      exact ⟨nofun, fun _ hf => .inr (.inr ⟨hi, (Host.Outcome.fault.inj hf).symm⟩)⟩

/-- The instruction at `pc` names itself in its fault: `pc` stands one word past it. -/
theorem State.advancePc_raiseIllegal (s : State) :
    s.advancePc.raiseIllegal = .fault (.illegalInstruction s.pc (s.readMem s.pc)) := by
  rw [State.raiseIllegal, State.advancePc_pc, State.advancePc_readMem, BitVec.add_sub_cancel]

/-- Settles O53: the fetched word decodes to no instruction, and the fault reads it again where it was fetched. -/
theorem stepStopsAtAnIllegalWord : Obligations.StepStopsAtAnIllegalWord := by
  intro s d hirq hwf
  have hexec : exec (decode (s.afterTick d).fetch) (s.afterTick d).advancePc = (s.afterTick d).advancePc.raiseIllegal :=
    exec_of_wellFormed_eq_false hwf _
  rw [stepWith_of_not_taken d s hirq, endOutcome_eq_fault_iff, hexec, State.advancePc_raiseIllegal, State.afterTick_pc]

/-! ## Interrupts at the boundary (R334, R335) -/

/-- Settles O6: with `I` = 0 no offer is taken, so that the step runs the instruction at `pc`. -/
theorem disabledInterruptsAreNeverTaken : Obligations.DisabledInterruptsAreNeverTaken := by
  intro s hI
  have hrun (d : DeviceTick) : stepWith d s =
      endOutcome (exec (decode ((s.afterTick d).readMem s.pc)) { s.afterTick d with pc := s.pc + 1#16 }) :=
    stepWith_of_not_taken d s (s.takenInterrupt_of_disabled d hI)
  exact ⟨hrun, hrun s.nextTick⟩

/-- The word IRQ entry pushes is the interrupted `r0`. -/
theorem State.enterIrq_readMem_spIrq (s : State) (msg : Word) :
    (s.enterIrq msg).readMem (s.enterIrq msg).spIrq = s.getReg .r0 :=
  Memory.read_write_self ..

/-- Settles O7: the step is the taking of the offer; `r0` and the pushed word are the two places that it writes. -/
theorem enabledInterruptIsTakenAtTheBoundary : Obligations.EnabledInterruptIsTakenAtTheBoundary := by
  intro s d o hI ho
  have htaken : s.takenInterrupt d = some o := (s.takenInterrupt_of_enabled d hI).trans ho
  have hword : Config.irqCpsr.toWord = 0x0012#16 := by decide
  refine ⟨_, stepWith_of_taken d s o htaken, rfl, rfl, hword, rfl, ?_, fun a ha => ?_,
    s.setReg_getReg_self .r0 o.message, fun r hr => s.setReg_getReg_of_ne o.message (List.ne_of_not_mem_cons hr),
    rfl, rfl, rfl, rfl, rfl, rfl, rfl⟩
  · exact (s.afterTick d).enterIrq_readMem_spIrq o.message
  · exact Memory.read_write_of_ne _ _ ha

/-! ## The return from an interrupt (R211, R335, R336, R339) -/

/-- Settles O49: the status word IRQ entry saves converts back to the interrupted `CPSR`, so that RFI completes with it,
and the pop of `r0` undoes the push. -/
theorem returnFromInterruptRestoresR0SpStatusAndPc : Obligations.ReturnFromInterruptRestoresR0SpStatusAndPc := by
  intro s u msg hsp hlr hspsr hpushed
  have hcpsr : Cpsr.ofWord u.spsrIrq = some s.cpsr := by rw [hspsr, State.enterIrq_spsrIrq, Cpsr.ofWord_toWord]
  have hr0 : u.readMem u.spIrq = s.getReg .r0 := by rw [hpushed, hsp, State.enterIrq_readMem_spIrq]
  have hspBack : u.spIrq + 1#16 = s.spIrq := by rw [hsp, State.enterIrq_spIrq, BitVec.sub_add_cancel]
  exact ⟨_, (u.returnFromIrq_eq_next_iff _).2 ⟨s.cpsr, hcpsr, rfl⟩, (u.setReg_getReg_self .r0 _).trans hr0, hspBack, rfl,
    hlr, fun _ hr => Regs.get_set_of_ne _ _ (List.ne_of_not_mem_cons hr)⟩

/-! ## The mode and the interrupt flag (R33, R343) -/

section
variable {i : Instr} {s t : State}

theorem Effect.keepsMode_or_replacesStatus (h : Effect s i t) : t.cpsr.m = s.cpsr.m ∨ replacesStatus i = true := by
  cases h with
  | data _ _ _ _ hm => exact .inl hm
  | swi | rsi | rfi => exact .inr rfl
  | link | call | stack | popPc => exact .inl (by simp)
  | access | device | jump | ifs | ifc | mrsSwi | mrsIrq => exact .inl rfl

theorem Effect.keepsInterruptFlag_or_writesIt (h : Effect s i t) :
    t.cpsr.i = s.cpsr.i ∨ replacesStatus i = true ∨ i = .ifs ∨ i = .ifc := by
  cases h with
  | data _ _ _ hI => exact .inl hI
  | swi | rsi | rfi => exact .inr (.inl rfl)
  | ifs => exact .inr (.inr (.inl rfl))
  | ifc => exact .inr (.inr (.inr rfl))
  | link | call | stack | popPc => exact .inl (by simp)
  | access | device | jump | mrsSwi | mrsIrq => exact .inl rfl

end

/-- Settles O54: both clauses from what the effect of the instruction keeps. -/
theorem modeAndInterruptFlagChangeOnlyByNamedInstructions :
    Obligations.ModeAndInterruptFlagChangeOnlyByNamedInstructions := by
  intro i s t h
  have e : Effect s i t := exec_effect h
  exact ⟨e.keepsMode_or_replacesStatus.resolve_left, e.keepsInterruptFlag_or_writesIt.resolve_left⟩

end Sys2Proof.Machine
end
